-- ==== Sys2Proof/Word.lean ====
section
/-! DEFINITION. Word.lean: the words of the block and their plainest arithmetic (00_scope.md R8, R9).

Every value of the block is an unsigned integer held as a natural number (R8), because every width is a
configuration field (R6) and no type of a register can therefore name its width. `trunc` brings a result
back to a width. The two keys have fixed formats (R80), so they are bit vectors. -/

namespace Sys2Proof

/-- One byte of the byte-addressed view of the target (20_memory.md R52, GK2). -/
abbrev Byte := BitVec 8

/-- The 17-bit key of a host CSR transaction (30_encoding.md R81). -/
abbrev CsrKey := BitVec 17

/-- The 4-bit key of an engine transition (30_encoding.md R83). -/
abbrev FsmKey := BitVec 4

/-- `trunc_N(v) = v mod 2^N`, the low `N` bits (00_scope.md R9). -/
def trunc (n v : Nat) : Nat := v % 2 ^ n

end Sys2Proof
end

