-- ==== Sys2Proof/Config.lean ====
section
/-! DEFINITION. Config.lean: what an implementation fixes (00_scope.md R6) and the free values of the spec.

The parameters with a default are the fields of `Params`; a state carries them, so that a claim can hold for
every configuration or take the defaults as a premise (92_eei_decisions.md D25). The OPEN parameters and the
draws have no body: a claim about them holds whatever they are. -/

namespace Sys2Proof

/-- `ZERO_BURST_POLICY`: what a trigger does when `burst_size == 0` (41_engine_fsm.md R153, D8). -/
inductive ZeroBurstPolicy where
  | refuse
  | skip
  | skipCount
  | asOne
  | wrap
  deriving DecidableEq, Repr

/-- `TRIGGER_MODE`: how trigger requests become pulses (41_engine_fsm.md R142, D9). -/
inductive TriggerMode where
  | edge
  | perWrite
  deriving DecidableEq, Repr

/-- The implementation parameters of 00_scope.md R6 that have a default. -/
structure Params where
  /-- `BURST_SIZE_W`: width of `burst_size`, `lat_size` and `words_written`. -/
  burstSizeW : Nat
  /-- `ADDR_REG_W`: width of `base_address`, `address_offset` and their latched copies. -/
  addrRegW : Nat
  /-- `PASS_W`: width of `pass_count`. -/
  passW : Nat
  /-- `READY_W`: width of the `ready` register; only bit 0 is meaningful. -/
  readyW : Nat
  /-- `WORD_BYTES`: bytes per bus word. -/
  wordBytes : Nat
  /-- `WORD_SHIFT`: `log2(WORD_BYTES)`. -/
  wordShift : Nat
  /-- `CSR_DATA_W`: width of a host transaction's data (D4). -/
  csrDataW : Nat
  /-- `WORD_ADDR_W`: width of the word address on the write bus (D12). -/
  wordAddrW : Nat
  /-- `DATA_W`: width of the write bus's data (D13). -/
  dataW : Nat
  /-- `ZERO_BURST_POLICY`. -/
  zeroBurst : ZeroBurstPolicy
  /-- `TRIGGER_MODE`. -/
  triggerMode : TriggerMode
  deriving DecidableEq, Repr

/-- The defaults of 00_scope.md R6. -/
def Config.defaults : Params where
  burstSizeW := 16
  addrRegW := 32
  passW := 5
  readyW := 8
  wordBytes := 4
  wordShift := 2
  csrDataW := 32
  wordAddrW := 32
  dataW := 32
  zeroBurst := .refuse
  triggerMode := .edge

/-- How the parameters of R6 hang together: a word has `WORD_BYTES = 2^WORD_SHIFT` bytes of 8 bits, every
register fits a whole transfer (20_memory.md R53), the payload fits a word (41_engine_fsm.md R151), and no
register is empty. DEDUCED from the table of R6; the defaults meet it. -/
structure Params.Ok (p : Params) : Prop where
  burst_pos : 1 ≤ p.burstSizeW
  pass_pos : 1 ≤ p.passW
  ready_pos : 1 ≤ p.readyW
  word_bytes : p.wordBytes = 2 ^ p.wordShift
  data_width : p.dataW = 8 * p.wordBytes
  burst_fits : p.burstSizeW ≤ p.csrDataW
  addr_fits : p.addrRegW ≤ p.csrDataW
  pass_fits : p.passW ≤ p.csrDataW
  ready_fits : p.readyW ≤ p.csrDataW
  payload_fits : p.passW ≤ p.dataW

/-- `CSR_BASE`, OPEN (00_scope.md R6, D3): the byte address of the register bank in the host's address
space. A constant with no body. -/
opaque Config.csrBase : Nat

/-- FREE VALUE: the draw for the bits of `RDATA` that no rule gives a value (40_csr_access.md R101, R111),
applied to the step number. -/
opaque Config.rdataDraw : Nat → Nat

/-- FREE VALUE: the bus's answer `wr_accept` in a step for which no schedule is given (42_bus_interface.md
R174), applied to the step number. -/
opaque Config.wrAccept : Nat → Bool

/-- `TARGET_VISIBILITY`, OPEN (00_scope.md R6, 20_memory.md R61, D21): the first step in which a reader of the
target sees the write of word address and data (second and third argument) accepted in a step (first
argument). A constant with no body. -/
opaque Config.visibleAt : Nat → Nat → Nat → Nat

end Sys2Proof
end

