-- ==== Sys2Proof/Syntax.lean ====
section
/-! DEFINITION. Syntax.lean: the operations of the block, one constructor per row of `opcode_table.json`.

The first eleven are the host's CSR operations (40_csr_access.md), the last five are the engine's transitions
(41_engine_fsm.md). A constructor carries every bit of its encoding that its row leaves free: the data word
of a write, the ignored bits of `NOP`, and the key bits marked `x` in 30_encoding.md R84. -/

namespace Sys2Proof

/-- The six registers of the bank (10_state.md R27). -/
inductive CsrReg where
  | startTrigger
  | ready
  | burstSize
  | baseAddress
  | addressOffset
  | passCount
  deriving DecidableEq, Repr

/-- The reasons of a model refusal (60_exceptions.md R202). A refusal is a mark in the state, not an outcome:
the refused step still has a successor. -/
inductive RefuseReason where
  /-- Raised by a step whose CSR key is refused by 30_encoding.md R88. -/
  | badCsrKey (key : CsrKey)
  /-- Raised by a trigger pulse in `IDLE` with `burst_size == 0` under `REFUSE` (41_engine_fsm.md R153). -/
  | zeroBurst
  deriving DecidableEq, Repr

/-- The operations of the block. -/
inductive Instr where
  /-- `NOP`, the host issues no transaction (R105); key bits 15:0 are ignored (R81). -/
  | nop (ignored : Nat)
  /-- `CSRW.START_TRIGGER` (R110). -/
  | csrwStartTrigger (wdata : Nat)
  /-- `CSRR.START_TRIGGER` (R111). -/
  | csrrStartTrigger
  /-- `CSRW.BURST_SIZE` (R112). -/
  | csrwBurstSize (wdata : Nat)
  /-- `CSRR.BURST_SIZE` (R113). -/
  | csrrBurstSize
  /-- `CSRW.BASE_ADDRESS` (R114). -/
  | csrwBaseAddress (wdata : Nat)
  /-- `CSRR.BASE_ADDRESS` (R115). -/
  | csrrBaseAddress
  /-- `CSRW.ADDRESS_OFFSET` (R116). -/
  | csrwAddressOffset (wdata : Nat)
  /-- `CSRR.ADDRESS_OFFSET` (R117). -/
  | csrrAddressOffset
  /-- `CSRR.READY` (R118). -/
  | csrrReady
  /-- `CSRR.PASS_COUNT` (R119). -/
  | csrrPassCount
  /-- `IDLE_HOLD` (R145), key `0 0 x x`. -/
  | idleHold (acc last : Bool)
  /-- `IDLE_START` (R146), key `0 1 x x`. -/
  | idleStart (acc last : Bool)
  /-- `ACTIVE_ADVANCE` (R147), key `1 x 1 0`. -/
  | activeAdvance (trg : Bool)
  /-- `ACTIVE_COMPLETE` (R148), key `1 x 1 1`. -/
  | activeComplete (trg : Bool)
  /-- `ACTIVE_STALL` (R149), key `1 x 0 x`. -/
  | activeStall (trg last : Bool)
  deriving DecidableEq, Repr

end Sys2Proof
end

