-- ==== Sys2Proof/WellFormed.lean ====
section
/-! DEFINITION. WellFormed.lean: which terms of `Instr` an encoding can stand for.

The ignored bits of `NOP` are key bits 15:0, and a write's data word is one of `CSR_DATA_W` bits
(30_encoding.md R81). The other operations have no operand that could be out of range. -/

namespace Sys2Proof

/-- The operation's operands fit the fields of its encoding (30_encoding.md R81, R83). -/
def Instr.wellFormed (p : Params) : Instr → Bool
  | .nop ignored => decide (ignored < 2 ^ 16)
  | .csrwStartTrigger wdata => decide (wdata < 2 ^ p.csrDataW)
  | .csrrStartTrigger => true
  | .csrwBurstSize wdata => decide (wdata < 2 ^ p.csrDataW)
  | .csrrBurstSize => true
  | .csrwBaseAddress wdata => decide (wdata < 2 ^ p.csrDataW)
  | .csrrBaseAddress => true
  | .csrwAddressOffset wdata => decide (wdata < 2 ^ p.csrDataW)
  | .csrrAddressOffset => true
  | .csrrReady => true
  | .csrrPassCount => true
  | .idleHold _ _ => true
  | .idleStart _ _ => true
  | .activeAdvance _ => true
  | .activeComplete _ => true
  | .activeStall _ _ => true

end Sys2Proof
end

