-- ==== Sys2Proof/Decode.lean ====
section
/-! DEFINITION. Decode.lean: keys to operations and back (30_encoding.md).

The decoder takes a key apart by the field tables R81 and R83 and the offsets of 10_state.md R27; the encoder
writes the literal keys of R82 and R84. The two are written from different tables of the spec, so that their
agreement says something. Keys are lines between agents, not bytes in a memory (R53, R64): there is no byte
order to decide. A key that R88 refuses is rejected by name, as `badCsrKey`. -/

namespace Sys2Proof

/-- What the block receives in a step: the host's transaction, or the key the engine forms itself
(30_encoding.md R80 (a), (b)). -/
inductive Frame where
  | csr (key : CsrKey) (wdata : Nat)
  | fsm (key : FsmKey)
  deriving DecidableEq, Repr

/-- The byte offset of a register from `CSR_BASE` (10_state.md R27, D3). -/
def CsrReg.offset : CsrReg → BitVec 8
  | .startTrigger => 0x00
  | .ready => 0x04
  | .burstSize => 0x08
  | .baseAddress => 0x0C
  | .addressOffset => 0x10
  | .passCount => 0x14

/-- The register at an offset; no register at any other offset, misaligned ones included (R54 (a), R88 (b)). -/
def regAtOffset (off : BitVec 8) : Option CsrReg :=
  if off = 0x00 then some .startTrigger
  else if off = 0x04 then some .ready
  else if off = 0x08 then some .burstSize
  else if off = 0x0C then some .baseAddress
  else if off = 0x10 then some .addressOffset
  else if off = 0x14 then some .passCount
  else none

/-- Bit 16, `VALID` (R81). -/
def CsrKey.valid (key : CsrKey) : Bool := key.getLsbD 16

/-- Bit 15, `WE` (R81). -/
def CsrKey.we (key : CsrKey) : Bool := key.getLsbD 15

/-- Bits 14:8, `RSV` (R81). -/
def CsrKey.rsv (key : CsrKey) : BitVec 7 := key.extractLsb' 8 7

/-- Bits 7:0, `OFFSET` (R81). -/
def CsrKey.offset (key : CsrKey) : BitVec 8 := key.extractLsb' 0 8

/-- A write of a register; none for the read-only ones (R88 (c), R120). -/
def decodeWrite (wdata : Nat) : CsrReg → Option Instr
  | .startTrigger => some (.csrwStartTrigger wdata)
  | .ready => none
  | .burstSize => some (.csrwBurstSize wdata)
  | .baseAddress => some (.csrwBaseAddress wdata)
  | .addressOffset => some (.csrwAddressOffset wdata)
  | .passCount => none

/-- A read of a register: all six can be read (R82). -/
def decodeRead : CsrReg → Option Instr
  | .startTrigger => some .csrrStartTrigger
  | .ready => some .csrrReady
  | .burstSize => some .csrrBurstSize
  | .baseAddress => some .csrrBaseAddress
  | .addressOffset => some .csrrAddressOffset
  | .passCount => some .csrrPassCount

/-- The operation of a key with `VALID = 1`, if it has one (R82, R88). -/
def decodeValid (key : CsrKey) (wdata : Nat) : Option Instr :=
  if key.rsv ≠ 0 then none
  else (regAtOffset key.offset).bind fun r => if key.we then decodeWrite wdata r else decodeRead r

/-- The host's transaction (R81, R82, R88). The data word travels on `CSR_DATA_W` lines, so only its low
`CSR_DATA_W` bits arrive; a read and a `NOP` carry none. -/
def decodeCsr (p : Params) (key : CsrKey) (wdata : Nat) : Except RefuseReason Instr :=
  if key.valid then
    match decodeValid key (trunc p.csrDataW wdata) with
    | some i => .ok i
    | none => .error (.badCsrKey key)
  else .ok (.nop (key.extractLsb' 0 16).toNat)

/-- The row that the bits `ST`, `TRG`, `ACC`, `LAST` select (R84). -/
def rowOfBits (st trg acc last : Bool) : Instr :=
  match st, trg, acc, last with
  | false, false, acc, last => .idleHold acc last
  | false, true, acc, last => .idleStart acc last
  | true, trg, true, false => .activeAdvance trg
  | true, trg, true, true => .activeComplete trg
  | true, trg, false, last => .activeStall trg last

/-- The transition a key selects. Total: every key has exactly one row (R84, R144). -/
def decodeFsm (key : FsmKey) : Instr :=
  rowOfBits (key.getLsbD 3) (key.getLsbD 2) (key.getLsbD 1) (key.getLsbD 0)

/-- The decoder: every frame gives an operation or is rejected by name (R89). -/
def decode (p : Params) : Frame → Except RefuseReason Instr
  | .csr key wdata => decodeCsr p key wdata
  | .fsm key => .ok (decodeFsm key)

/-- The key bit of a flag, at its place in an FSM key (R83). -/
def fsmBit (b : Bool) (mask : FsmKey) : FsmKey := if b then mask else 0

/-- The encoder: the literal keys of R82, and the patterns of R84 with their free bits filled in. -/
def encode : Instr → Frame
  | .nop ignored => .csr (BitVec.ofNat 17 (ignored % 2 ^ 16)) 0
  | .csrwStartTrigger wdata => .csr 0x18000 wdata
  | .csrrStartTrigger => .csr 0x10000 0
  | .csrwBurstSize wdata => .csr 0x18008 wdata
  | .csrrBurstSize => .csr 0x10008 0
  | .csrwBaseAddress wdata => .csr 0x1800C wdata
  | .csrrBaseAddress => .csr 0x1000C 0
  | .csrwAddressOffset wdata => .csr 0x18010 wdata
  | .csrrAddressOffset => .csr 0x10010 0
  | .csrrReady => .csr 0x10004 0
  | .csrrPassCount => .csr 0x10014 0
  | .idleHold acc last => .fsm (0b0000 ||| fsmBit acc 0b0010 ||| fsmBit last 0b0001)
  | .idleStart acc last => .fsm (0b0100 ||| fsmBit acc 0b0010 ||| fsmBit last 0b0001)
  | .activeAdvance trg => .fsm (0b1010 ||| fsmBit trg 0b0100)
  | .activeComplete trg => .fsm (0b1011 ||| fsmBit trg 0b0100)
  | .activeStall trg last => .fsm (0b1000 ||| fsmBit trg 0b0100 ||| fsmBit last 0b0001)

/-- A row of the opcode table of one format: its mnemonic, match and mask. -/
structure OpcodeRow (w : Nat) where
  mnemonic : String
  pattern : BitVec w
  mask : BitVec w
  deriving DecidableEq, Repr

/-- The row matches the key: `(key & mask) == match` (R82, R84, R88). -/
def OpcodeRow.hits {w : Nat} (row : OpcodeRow w) (key : BitVec w) : Bool := key &&& row.mask == row.pattern

/-- The rows of format `csr`, and `NOP` (R82). -/
def csrRows : List (OpcodeRow 17) :=
  [⟨"NOP", 0x00000, 0x10000⟩,
   ⟨"CSRW.START_TRIGGER", 0x18000, 0x1FFFF⟩,
   ⟨"CSRR.START_TRIGGER", 0x10000, 0x1FFFF⟩,
   ⟨"CSRW.BURST_SIZE", 0x18008, 0x1FFFF⟩,
   ⟨"CSRR.BURST_SIZE", 0x10008, 0x1FFFF⟩,
   ⟨"CSRW.BASE_ADDRESS", 0x1800C, 0x1FFFF⟩,
   ⟨"CSRR.BASE_ADDRESS", 0x1000C, 0x1FFFF⟩,
   ⟨"CSRW.ADDRESS_OFFSET", 0x18010, 0x1FFFF⟩,
   ⟨"CSRR.ADDRESS_OFFSET", 0x10010, 0x1FFFF⟩,
   ⟨"CSRR.READY", 0x10004, 0x1FFFF⟩,
   ⟨"CSRR.PASS_COUNT", 0x10014, 0x1FFFF⟩]

/-- The rows of format `fsm` (R84). -/
def fsmRows : List (OpcodeRow 4) :=
  [⟨"IDLE_HOLD", 0b0000, 0b1100⟩,
   ⟨"IDLE_START", 0b0100, 0b1100⟩,
   ⟨"ACTIVE_ADVANCE", 0b1010, 0b1011⟩,
   ⟨"ACTIVE_COMPLETE", 0b1011, 0b1011⟩,
   ⟨"ACTIVE_STALL", 0b1000, 0b1010⟩]

/-- The operation's mnemonic in the opcode table. -/
def Instr.mnemonic : Instr → String
  | .nop _ => "NOP"
  | .csrwStartTrigger _ => "CSRW.START_TRIGGER"
  | .csrrStartTrigger => "CSRR.START_TRIGGER"
  | .csrwBurstSize _ => "CSRW.BURST_SIZE"
  | .csrrBurstSize => "CSRR.BURST_SIZE"
  | .csrwBaseAddress _ => "CSRW.BASE_ADDRESS"
  | .csrrBaseAddress => "CSRR.BASE_ADDRESS"
  | .csrwAddressOffset _ => "CSRW.ADDRESS_OFFSET"
  | .csrrAddressOffset => "CSRR.ADDRESS_OFFSET"
  | .csrrReady => "CSRR.READY"
  | .csrrPassCount => "CSRR.PASS_COUNT"
  | .idleHold _ _ => "IDLE_HOLD"
  | .idleStart _ _ => "IDLE_START"
  | .activeAdvance _ => "ACTIVE_ADVANCE"
  | .activeComplete _ => "ACTIVE_COMPLETE"
  | .activeStall _ _ => "ACTIVE_STALL"

/-- The mnemonics of the rows of the opcode table that a frame's key matches. -/
def Frame.rows : Frame → List String
  | .csr key _ => (csrRows.filter fun row => row.hits key).map (·.mnemonic)
  | .fsm key => (fsmRows.filter fun row => row.hits key).map (·.mnemonic)

/-- The frame of a word numbered as `opcode_table.json` numbers its bits. A row of at most 8 bits is an FSM key;
a longer one is a CSR key in bits 16:0 with the data word, if any, from bit 24 on. Filler bits up to the whole
byte are 0. -/
def frameOfTableWord (nbits w : Nat) : Option Frame :=
  if nbits ≤ 8 then
    if w < 2 ^ 4 then some (.fsm (BitVec.ofNat 4 w)) else none
  else if w / 2 ^ 17 % 2 ^ 7 = 0 then some (.csr (BitVec.ofNat 17 w) (w / 2 ^ 24)) else none

/-- The operation that the decoder reads from a word of the opcode table, at the default widths. -/
def decodeTableWord (nbits w : Nat) : Option Instr :=
  match frameOfTableWord nbits w with
  | none => none
  | some f =>
    match decode Config.defaults f with
    | .ok i => some i
    | .error _ => none

end Sys2Proof
end

