-- ==== Sys2Proof/Machine/State.lean ====
section
/-! DEFINITION. Machine/State.lean: the state of the block (10_state.md R20), the spec's own bookkeeping (R37), and the
fields the model adds for its inputs, its outputs and its configuration. Plain data throughout. -/

namespace Sys2Proof.Machine

/-- `current_state` (10_state.md R23). Its encoding `IDLE = 0`, `ACTIVE = 1` cannot be observed (D26). -/
inductive EngineState where
  | idle
  | active
  deriving DecidableEq, Repr

/-- An entry `(step, waddr, data)` of the write log `W` (10_state.md R37 (a), 42_bus_interface.md R179). -/
structure WriteEntry where
  step : Nat
  waddr : Nat
  data : Nat
  deriving DecidableEq, Repr

/-- What the bus outputs hold in a step with `wr_valid = 1` (30_encoding.md R85, 42_bus_interface.md R170). -/
structure Offer where
  waddr : Nat
  data : Nat
  deriving DecidableEq, Repr

/-- One operation of the host program (30_encoding.md R91, R92). -/
inductive HostOp where
  /-- A raw transaction: its key and, for a write, its data word. `NOP` and every refused key are among them. -/
  | txn (key : CsrKey) (wdata : Nat)
  /-- `WAITRDY`: one `CSRR READY` a step until one reads bit 0 as 1 (R92). -/
  | waitRdy
  deriving DecidableEq, Repr

/-- The target's bytes by byte address (20_memory.md R52, 42_bus_interface.md R180), in one canonical form:
addresses strictly rising. An unlisted address reads as no value: no accepted write has reached it. -/
abbrev Memory := List Host.Cell

/-- The canonical form of a memory. No entry can equal what an unlisted address reads as, since that is no
byte. -/
abbrev Memory.wf (m : Memory) : Prop := m.Pairwise fun a b => a.1 < b.1

/-- The state of the block, of the spec's bookkeeping and of the model's inputs and outputs. -/
structure State where
  /-- MODEL: the configuration (00_scope.md R6); no step changes it. -/
  cfg : Params
  /-- `current_state`, 1 bit, reset `IDLE` (R23). Written by the engine. -/
  currentState : EngineState
  /-- `words_written`, `BURST_SIZE_W` bits, reset 0 (R24). Written by the engine. -/
  wordsWritten : Nat
  /-- `pass_count`, `PASS_W` bits, reset 0 (R25, R33). Written by the engine. -/
  passCount : Nat
  /-- `burst_size`, `BURST_SIZE_W` bits, reset 0 (R30). Written by the host. -/
  burstSize : Nat
  /-- `base_address`, `ADDR_REG_W` bits, reset 0 (R31). Written by the host. -/
  baseAddress : Nat
  /-- `address_offset`, `ADDR_REG_W` bits, reset 0 (R32). Written by the host. -/
  addressOffset : Nat
  /-- `lat_size`, `BURST_SIZE_W` bits (R34). Reset unspecified: 0 here, DESIGN CHOICE (log entry 2, unsafe). -/
  latSize : Nat
  /-- `lat_base`, `ADDR_REG_W` bits (R34). Reset unspecified: 0 here, DESIGN CHOICE (log entry 2, unsafe). -/
  latBase : Nat
  /-- `lat_offset`, `ADDR_REG_W` bits (R34). Reset unspecified: 0 here, DESIGN CHOICE (log entry 2, unsafe). -/
  latOffset : Nat
  /-- `trig_prev`, 1 bit, reset 0 (R35). -/
  trigPrev : Bool
  /-- `W`, oldest entry first (R37 (a), R179). Reset leaves it. -/
  writeLog : List WriteEntry
  /-- `refused`, the sticky refusal mark (R37 (b), R202). Reset leaves it. -/
  refused : Bool
  /-- The target's bytes as this engine's accepted writes make them (R180). Reset leaves it. -/
  mem : Memory
  /-- MODEL: the number `t` of the step about to be taken (R179), to which the draws are applied. -/
  stepNo : Nat
  /-- MODEL input: the host program still to run (R91, R93); past its end the host issues `NOP`. -/
  hostProg : List HostOp
  /-- MODEL input: the bus answers still scheduled (R91); past its end the answer is a draw (R174). -/
  busSched : List Bool
  /-- MODEL input: the values of `rst` still scheduled (R231); past its end `rst = 0`. -/
  rstSched : List Bool
  /-- MODEL output: `RDATA` of the last step, if it returned one (R140). -/
  rdata : Option Nat
  /-- MODEL output: `wr_valid`, `wr_addr`, `wr_data` of the last step (R140); none for `wr_valid = 0`. -/
  offer : Option Offer
  /-- MODEL output: the reasons of the refusals raised in the last step (R202, R205). -/
  raised : List RefuseReason
  deriving DecidableEq, Repr

/-- The block raises no fault of any kind (60_exceptions.md R200): there is none to name. -/
inductive Fault where
  deriving DecidableEq, Repr

/-- A refusal of the spec is a mark in the state and its step has a successor (60_exceptions.md R202), so no
meaning answers with an outcome of this type. -/
inductive Refusal where
  /-- Raised by an arm of `exec` whose operation has no meaning yet; safe (the run stops). No arm raises it. -/
  | notModelled (mnemonic : String)
  deriving DecidableEq, Repr

/-- `ResetState` at the default parameters (70_reset_and_hazards.md R230), with the bookkeeping empty and no input
scheduled: the start of a run under `LaunchAfterReset` (R232). -/
def State.reset : State where
  cfg := Config.defaults
  currentState := .idle
  wordsWritten := 0
  passCount := 0
  burstSize := 0
  baseAddress := 0
  addressOffset := 0
  latSize := 0
  latBase := 0
  latOffset := 0
  trigPrev := false
  writeLog := []
  refused := false
  mem := []
  stepNo := 0
  hostProg := []
  busSched := []
  rstSched := []
  rdata := none
  offer := none
  raised := []

end Sys2Proof.Machine
end

