-- ==== Sys2Proof/Machine/Operands.lean ====
section
/-! DEFINITION. Machine/Operands.lean: how operands are assembled (30_encoding.md R86): write data, read data, the word
address and the payload of an offer, and the byte lanes of a word. -/

namespace Sys2Proof.Machine

/-- The width of a register of the bank (10_state.md R27). -/
def csrWidth (p : Params) : CsrReg → Nat
  | .startTrigger => 1
  | .ready => p.readyW
  | .burstSize => p.burstSizeW
  | .baseAddress => p.addrRegW
  | .addressOffset => p.addrRegW
  | .passCount => p.passW

/-- How many low bits of a read carry the register's value (40_csr_access.md R101): none of the write-only
`start_trigger` (R111), one of `ready` (R118). -/
def meaningfulBits (p : Params) : CsrReg → Nat
  | .startTrigger => 0
  | .ready => 1
  | .burstSize => p.burstSizeW
  | .baseAddress => p.addrRegW
  | .addressOffset => p.addrRegW
  | .passCount => p.passW

/-- `trunc_w(WDATA)`: what a write stores in a register (40_csr_access.md R102). -/
def writeValue (p : Params) (r : CsrReg) (wdata : Nat) : Nat := trunc (csrWidth p r) wdata

/-- `{Draw, value}`: `bits` low bits of the value, and above them a draw up to `CSR_DATA_W` bits (R101). -/
def readWord (p : Params) (bits value draw : Nat) : Nat :=
  trunc bits value + 2 ^ bits * trunc (p.csrDataW - bits) draw

/-- The value a register's meaningful bits hold (10_state.md R26, R28 to R33). -/
def State.csrValue (s : State) : CsrReg → Nat
  | .startTrigger => 0
  | .ready => if s.currentState = .idle then 1 else 0
  | .burstSize => s.burstSize
  | .baseAddress => s.baseAddress
  | .addressOffset => s.addressOffset
  | .passCount => s.passCount

/-- `CsrRead(S, h)`: the `RDATA` of a read (41_engine_fsm.md R140, 40_csr_access.md R101). -/
def State.csrRead (s : State) (r : CsrReg) : Nat :=
  readWord s.cfg (meaningfulBits s.cfg r) (s.csrValue r) (Config.rdataDraw s.stepNo)

/-- `WordAddr(S)` (41_engine_fsm.md R150): each latched register is shifted on its own, then added (C1). -/
def State.wordAddr (s : State) : Nat :=
  trunc s.cfg.wordAddrW ((s.latBase >>> s.cfg.wordShift) + (s.latOffset >>> s.cfg.wordShift) + s.wordsWritten)

/-- The payload `zext_DATA_W(pass_count)` (41_engine_fsm.md R151). -/
def State.payload (s : State) : Nat := trunc s.cfg.dataW s.passCount

/-- Byte `k` of a word, most significant first: `data[31-8k : 24-8k]` for a word of 4 bytes (20_memory.md R52). -/
def wordByte (p : Params) (data k : Nat) : Byte := BitVec.ofNat 8 (data >>> (8 * (p.wordBytes - 1 - k)))

/-- The lowest byte address of a word (30_encoding.md R85). -/
def byteAddr (p : Params) (waddr : Nat) : Nat := p.wordBytes * waddr

end Sys2Proof.Machine
end

