-- ==== Sys2Proof/Machine/Flags.lean ====
section
/-! DEFINITION. Machine/Flags.lean: the flag `ready`, the trigger pulse, the terminal test, and the key they form. -/

namespace Sys2Proof.Machine

/-- The flag `ready` (10_state.md R26): the engine is idle. -/
def State.ready (s : State) : Bool := s.currentState == .idle

/-- `wr_valid` (42_bus_interface.md R171): a write is offered exactly while `ACTIVE`. -/
def State.wrValid (s : State) : Bool := s.currentState == .active

/-- The trigger request `lvl` of a step (41_engine_fsm.md R142): a `CSRW.START_TRIGGER` with `WDATA[0] = 1`. -/
def triggerLevel : Instr → Bool
  | .csrwStartTrigger wdata => wdata % 2 == 1
  | _ => false

/-- `TriggerPulse(lvl, prev)` (41_engine_fsm.md R142). -/
def triggerPulse (mode : TriggerMode) (lvl prev : Bool) : Bool :=
  match mode with
  | .edge => lvl && !prev
  | .perWrite => lvl

/-- `Last(S)`, the terminal test `words_written == (lat_size - 1) mod 2^BURST_SIZE_W` (41_engine_fsm.md R152). -/
def State.last (s : State) : Bool :=
  s.wordsWritten == (s.latSize + 2 ^ s.cfg.burstSizeW - 1) % 2 ^ s.cfg.burstSizeW

/-- The key `{ST, TRG, ACC, LAST}` of a step (30_encoding.md R83), from the trigger request and the bus's answer.
`ACC` is 0 when no write is offered (42_bus_interface.md R172). -/
def State.fsmKey (s : State) (lvl acc : Bool) : FsmKey :=
  fsmBit s.wrValid 0b1000 ||| fsmBit (triggerPulse s.cfg.triggerMode lvl s.trigPrev) 0b0100
    ||| fsmBit (s.wrValid && acc) 0b0010 ||| fsmBit s.last 0b0001

end Sys2Proof.Machine
end

