-- ==== Sys2Proof/Machine/Ops.lean ====
section
/-! DEFINITION. Machine/Ops.lean: the named operations over the state that the meanings are written with.

The block takes no exception and returns from none (60_exceptions.md R200, R206, R207). What stands in that
place is the refusal mark (`State.refuse`, R202) and the reset event (`State.resetEvent`, R231). -/

namespace Sys2Proof.Machine

/-- The byte at an address, if an accepted write has reached it. -/
def Memory.read : Memory → Nat → Option Byte
  | [], _ => none
  | (b, v) :: rest, a => if b = a then some v else Memory.read rest a

/-- Store a byte, keeping the addresses strictly rising. -/
def Memory.write : Memory → Nat → Byte → Memory
  | [], a, v => [(a, v)]
  | (b, w) :: rest, a, v =>
    if a < b then (a, v) :: (b, w) :: rest
    else if a = b then (a, v) :: rest
    else (b, w) :: Memory.write rest a v

/-- Store the first `n` bytes of a word from its lowest address on, big-endian (20_memory.md R52). -/
def Memory.writeBytes (p : Params) (m : Memory) (waddr data : Nat) : Nat → Memory
  | 0 => m
  | n + 1 => (Memory.writeBytes p m waddr data n).write (byteAddr p waddr + n) (wordByte p data n)

/-- `MemWrite(waddr, WORD_BYTES, data)` (42_bus_interface.md R180). -/
def Memory.writeWord (p : Params) (m : Memory) (waddr data : Nat) : Memory :=
  m.writeBytes p waddr data p.wordBytes

/-- The part of a step that runs after another part has answered. -/
def andThen (o : Host.Outcome State Fault Refusal) (f : State → Host.Outcome State Fault Refusal) :
    Host.Outcome State Fault Refusal :=
  match o with
  | .next s => f s
  | .fault r => .fault r
  | .refused r => .refused r

/-- `S'.trig_prev <- lvl` (41_engine_fsm.md R142). -/
def State.setTrigPrev (s : State) (lvl : Bool) : State := { s with trigPrev := lvl }

/-- `S'.burst_size <- v` (40_csr_access.md R112). -/
def State.setBurstSize (s : State) (v : Nat) : State := { s with burstSize := v }

/-- `S'.base_address <- v` (40_csr_access.md R114). -/
def State.setBaseAddress (s : State) (v : Nat) : State := { s with baseAddress := v }

/-- `S'.address_offset <- v` (40_csr_access.md R116). -/
def State.setAddressOffset (s : State) (v : Nat) : State := { s with addressOffset := v }

/-- `RDATA <- v` (41_engine_fsm.md R140). -/
def State.setRdata (s : State) (v : Nat) : State := { s with rdata := some v }

/-- `IDLE` with `words_written = 0` (41_engine_fsm.md R145, R148). -/
def State.enterIdle (s : State) : State := { s with currentState := .idle, wordsWritten := 0 }

/-- Latch the configuration with a given size and become `ACTIVE` (41_engine_fsm.md R146, R153). -/
def State.latchBurst (s : State) (size : Nat) : State :=
  { s with
    currentState := .active
    latSize := size
    latBase := s.baseAddress
    latOffset := s.addressOffset
    wordsWritten := 0 }

/-- `pass_count <- (pass_count + 1) mod 2^PASS_W` (10_state.md R25). -/
def State.bumpPass (s : State) : State := { s with passCount := (s.passCount + 1) % 2 ^ s.cfg.passW }

/-- `words_written <- words_written + 1` (41_engine_fsm.md R147), which never overflows there. -/
def State.countWord (s : State) : State := { s with wordsWritten := s.wordsWritten + 1 }

/-- The bus takes the offered write: it is appended to `W` and lands at the target (42_bus_interface.md R179, R180). -/
def State.acceptWrite (s : State) : State :=
  { s with
    writeLog := s.writeLog ++ [⟨s.stepNo, s.wordAddr, s.payload⟩]
    mem := s.mem.writeWord s.cfg s.wordAddr s.payload }

/-- `S'.refused <- 1 ; raise Refuse(reason)` (60_exceptions.md R202). -/
def State.refuse (s : State) (reason : RefuseReason) : State :=
  { s with refused := true, raised := s.raised ++ [reason] }

/-- The outputs at the start of a step, all from `S` (41_engine_fsm.md R140 (1), R141): the offer, no `RDATA` until a read
returns one, no refusal raised yet. -/
def State.present (s : State) : State :=
  { s with
    offer := if s.wrValid then some ⟨s.wordAddr, s.payload⟩ else none
    rdata := none
    raised := [] }

/-- The reset event (70_reset_and_hazards.md R230, R231): every field of the block at its reset value, nothing offered,
no `RDATA`. The bookkeeping, the target, the configuration and the inputs are not touched. -/
def State.resetEvent (s : State) : State :=
  { State.reset with
    cfg := s.cfg
    writeLog := s.writeLog
    refused := s.refused
    mem := s.mem
    stepNo := s.stepNo
    hostProg := s.hostProg
    busSched := s.busSched
    rstSched := s.rstSched }

end Sys2Proof.Machine
end

