-- ==== Sys2Proof/Machine/Csr.lean ====
section
/-! DEFINITION. Machine/Csr.lean: the meanings of the host's operations (40_csr_access.md).

A meaning here is the host's half of a step, parts (1) to (3) of 41_engine_fsm.md R140: the `RDATA` of a read, the
register a write stores, and `trig_prev <- lvl`. The engine's half of the same step is a transition of
Machine/Engine.lean; Machine/Global.lean runs both. -/

namespace Sys2Proof.Machine

/-- A read: `RDATA` from the start of the step, no side effect, `lvl = 0` (R100, R101, 20_memory.md R56). -/
def State.hostRead (s : State) (r : CsrReg) : State := (s.setRdata (s.csrRead r)).setTrigPrev false

/-- R105: no register write; the request of the step is 0. -/
def execNop (_ignored : Nat) (s : State) : Host.Outcome State Fault Refusal := .next (s.setTrigPrev false)

/-- R110: `lvl <- WDATA[0]`; no register is written by the transaction itself. The pulse is formed from the old
`trig_prev` when the engine's key is (R142). -/
def execCsrwStartTrigger (wdata : Nat) (s : State) : Host.Outcome State Fault Refusal :=
  .next (s.setTrigPrev (triggerLevel (.csrwStartTrigger wdata)))

/-- R111: `RDATA <- Draw(32)`, no side effect. -/
def execCsrrStartTrigger (s : State) : Host.Outcome State Fault Refusal := .next (s.hostRead .startTrigger)

/-- R112: `burst_size <- trunc(WDATA)`. -/
def execCsrwBurstSize (wdata : Nat) (s : State) : Host.Outcome State Fault Refusal :=
  .next ((s.setBurstSize (writeValue s.cfg .burstSize wdata)).setTrigPrev false)

/-- R113. -/
def execCsrrBurstSize (s : State) : Host.Outcome State Fault Refusal := .next (s.hostRead .burstSize)

/-- R114: `base_address <- trunc(WDATA)`. -/
def execCsrwBaseAddress (wdata : Nat) (s : State) : Host.Outcome State Fault Refusal :=
  .next ((s.setBaseAddress (writeValue s.cfg .baseAddress wdata)).setTrigPrev false)

/-- R115. -/
def execCsrrBaseAddress (s : State) : Host.Outcome State Fault Refusal := .next (s.hostRead .baseAddress)

/-- R116: `address_offset <- trunc(WDATA)`. -/
def execCsrwAddressOffset (wdata : Nat) (s : State) : Host.Outcome State Fault Refusal :=
  .next ((s.setAddressOffset (writeValue s.cfg .addressOffset wdata)).setTrigPrev false)

/-- R117. -/
def execCsrrAddressOffset (s : State) : Host.Outcome State Fault Refusal := .next (s.hostRead .addressOffset)

/-- R118. -/
def execCsrrReady (s : State) : Host.Outcome State Fault Refusal := .next (s.hostRead .ready)

/-- R119. -/
def execCsrrPassCount (s : State) : Host.Outcome State Fault Refusal := .next (s.hostRead .passCount)

end Sys2Proof.Machine
end

