-- ==== Sys2Proof/Machine/Engine.lean ====
section
/-! DEFINITION. Machine/Engine.lean: the meanings of the engine's transitions (41_engine_fsm.md).

A meaning here is part (4) of a step (R140): the action of one row of the transition table. A step runs a row
only when the key it formed selects that row (R144), so the row's conditions (`IDLE` or `ACTIVE`, accepted,
last) are not tested again. The key bits a row leaves free are its arguments, and no row reads them. -/

namespace Sys2Proof.Machine

/-- What a pulse in `IDLE` with `burst_size == 0` does under each policy (R153). -/
def zeroBurstStart (s : State) : State :=
  match s.cfg.zeroBurst with
  | .refuse => s.enterIdle.refuse .zeroBurst
  | .skip => s.enterIdle
  | .skipCount => s.enterIdle.bumpPass
  | .asOne => s.latchBurst 1
  | .wrap => s.latchBurst 0

/-- R145: `IDLE`, `words_written = 0`; nothing is offered and the answer is ignored. -/
def execIdleHold (_acc _last : Bool) (s : State) : Host.Outcome State Fault Refusal := .next s.enterIdle

/-- R146 for a nonzero `burst_size`; R153 for zero. -/
def execIdleStart (_acc _last : Bool) (s : State) : Host.Outcome State Fault Refusal :=
  .next (if s.burstSize = 0 then zeroBurstStart s else s.latchBurst s.burstSize)

/-- R147: the offer is taken and counted. -/
def execActiveAdvance (_trg : Bool) (s : State) : Host.Outcome State Fault Refusal := .next s.acceptWrite.countWord

/-- R148: the terminal write is taken; `pass_count` advances and the engine becomes idle. -/
def execActiveComplete (_trg : Bool) (s : State) : Host.Outcome State Fault Refusal :=
  .next s.acceptWrite.bumpPass.enterIdle

/-- R149: no engine field is written; the same offer is made again. -/
def execActiveStall (_trg _last : Bool) (s : State) : Host.Outcome State Fault Refusal := .next s

end Sys2Proof.Machine
end

