-- ==== Sys2Proof/Machine/Dispatch.lean ====
section
/-! DEFINITION. Machine/Dispatch.lean: the meaning of every operation, one arm per row of the opcode table. -/

namespace Sys2Proof.Machine

def exec (i : Instr) (s : State) : Host.Outcome State Fault Refusal :=
  match i with
  | .nop ignored => Sys2Proof.Machine.execNop ignored s
  | .csrwStartTrigger wdata => Sys2Proof.Machine.execCsrwStartTrigger wdata s
  | .csrrStartTrigger => Sys2Proof.Machine.execCsrrStartTrigger s
  | .csrwBurstSize wdata => Sys2Proof.Machine.execCsrwBurstSize wdata s
  | .csrrBurstSize => Sys2Proof.Machine.execCsrrBurstSize s
  | .csrwBaseAddress wdata => Sys2Proof.Machine.execCsrwBaseAddress wdata s
  | .csrrBaseAddress => Sys2Proof.Machine.execCsrrBaseAddress s
  | .csrwAddressOffset wdata => Sys2Proof.Machine.execCsrwAddressOffset wdata s
  | .csrrAddressOffset => Sys2Proof.Machine.execCsrrAddressOffset s
  | .csrrReady => Sys2Proof.Machine.execCsrrReady s
  | .csrrPassCount => Sys2Proof.Machine.execCsrrPassCount s
  | .idleHold acc last => Sys2Proof.Machine.execIdleHold acc last s
  | .idleStart acc last => Sys2Proof.Machine.execIdleStart acc last s
  | .activeAdvance trg => Sys2Proof.Machine.execActiveAdvance trg s
  | .activeComplete trg => Sys2Proof.Machine.execActiveComplete trg s
  | .activeStall trg last => Sys2Proof.Machine.execActiveStall trg last s

end Sys2Proof.Machine
end

