-- ==== Sys2Proof/Machine/HostProgram.lean ====
section
/-! DEFINITION. Machine/HostProgram.lean: the host's notation (30_encoding.md R91 to R93), its pseudo-instructions, and the
host's view by address (R81). The host's variables and branches are not state of the block (R93). -/

namespace Sys2Proof.Machine

/-- The key of a transaction on a register (30_encoding.md R81): `VALID`, `WE`, `RSV = 0`, `OFFSET`. -/
def csrKey (we : Bool) (off : BitVec 8) : CsrKey :=
  (1#1 ++ BitVec.ofBool we ++ 0#7 ++ off).cast rfl

/-- `NOP` (R91). -/
def hostNop : HostOp := .txn 0 0

/-- `CSRW <REG>, <value>` (R91). It can be written down for every register; `READY` and `PASS_COUNT` are refused. -/
def hostCsrw (r : CsrReg) (value : Nat) : HostOp := .txn (csrKey true r.offset) value

/-- `CSRR <REG>` (R91). -/
def hostCsrr (r : CsrReg) : HostOp := .txn (csrKey false r.offset) 0

/-- `START` (R92). -/
def hostStart : HostOp := hostCsrw .startTrigger 1

/-- `CONFIG n, b, o` (R92). -/
def hostConfig (n b o : Nat) : List HostOp :=
  [hostCsrw .burstSize n, hostCsrw .baseAddress b, hostCsrw .addressOffset o]

/-- `WAIT k` (R92). -/
def hostWait (k : Nat) : List HostOp := List.replicate k hostNop

/-- A host access to a byte address, for a bank at `base` (R81). An address outside the window of 0x100 bytes is no
transaction of this block, which then sees none. -/
def hostAccess (base addr : Nat) (we : Bool) (wdata : Nat) : HostOp :=
  if base ≤ addr ∧ addr ≤ base + 0xFF then .txn (csrKey we (BitVec.ofNat 8 (addr - base))) wdata else hostNop

/-- A host access to a byte address of the platform, with the bank at `CSR_BASE`. -/
def hostAccessAt (addr : Nat) (we : Bool) (wdata : Nat) : HostOp := hostAccess Config.csrBase addr we wdata

/-- The transaction that an operation puts on the bus in a step. -/
def HostOp.key : HostOp → CsrKey
  | .txn key _ => key
  | .waitRdy => csrKey false CsrReg.ready.offset

/-- The data word that goes with it. -/
def HostOp.wdata : HostOp → Nat
  | .txn _ wdata => wdata
  | .waitRdy => 0

/-- The operation issued in this step: the next of the program, `NOP` past its end (R93). -/
def State.nextOp (s : State) : HostOp :=
  match s.hostProg with
  | [] => hostNop
  | op :: _ => op

/-- The reset input of this step (70_reset_and_hazards.md R231); 0 past the end of the schedule. -/
def State.nextRst (s : State) : Bool :=
  match s.rstSched with
  | [] => false
  | r :: _ => r

/-- The bus's answer in this step: the schedule's, a draw past its end (42_bus_interface.md R174). -/
def State.nextAcc (s : State) : Bool :=
  match s.busSched with
  | [] => Config.wrAccept s.stepNo
  | b :: _ => b

/-- What is left of the program after this step. `WAITRDY` stays until its read has bit 0 = 1 (R92), that is until it
reads in `IDLE` (40_csr_access.md R118); a read discarded by a reset has returned nothing, so it stays then too. -/
def State.hostRest (s : State) : List HostOp :=
  match s.hostProg with
  | [] => []
  | .waitRdy :: rest => if s.ready && !s.nextRst then rest else .waitRdy :: rest
  | .txn _ _ :: rest => rest

end Sys2Proof.Machine
end

