-- ==== Sys2Proof/Machine/Global.lean ====
section
/-! DEFINITION. Machine/Global.lean: the global step (41_engine_fsm.md R140) of one host operation, one reset input and one
bus answer, and how the inputs move on. -/

namespace Sys2Proof.Machine

/-- The operation a host transaction stands for; a refused key is treated as `NOP` (40_csr_access.md R103). -/
def hostInstr (p : Params) (op : HostOp) : Instr :=
  match decodeCsr p op.key op.wdata with
  | .ok i => i
  | .error _ => .nop 0

/-- The mark of a refused key (40_csr_access.md R103, 60_exceptions.md R202). -/
def State.markBadKey (s : State) (op : HostOp) : State :=
  match decodeCsr s.cfg op.key op.wdata with
  | .ok _ => s
  | .error reason => s.refuse reason

/-- The key the engine forms in a step with a given host operation and bus answer (30_encoding.md R83). -/
def State.engineKey (s : State) (op : HostOp) (acc : Bool) : FsmKey :=
  s.fsmKey (triggerLevel (hostInstr s.cfg op)) acc

/-- `Step(S, h, rst, acc)` (41_engine_fsm.md R140). Reset overrides all (60_exceptions.md R205). Otherwise the outputs are
taken from `S`, the host's half runs, and the transition runs whose row matches the key formed from `S`. The two
halves write disjoint fields (10_state.md R38), and the one field the engine's half reads of the host's,
the configuration at `IDLE_START`, is not written in a step that carries a trigger. -/
def globalStep (s : State) (op : HostOp) (rst acc : Bool) : Host.Outcome State Fault Refusal :=
  if rst then .next s.resetEvent
  else
    andThen (exec (hostInstr s.cfg op) (s.present.markBadKey op)) fun t =>
      exec (decodeFsm (s.engineKey op acc)) t

/-- The step number and the inputs move on from those of `s`. -/
def State.advanceFrom (t s : State) : State :=
  { t with
    stepNo := s.stepNo + 1
    hostProg := s.hostRest
    busSched := s.busSched.tail
    rstSched := s.rstSched.tail }

/-- One step from the inputs that the state holds. -/
def stepFromInputs (s : State) : Host.Outcome State Fault Refusal :=
  andThen (globalStep s s.nextOp s.nextRst s.nextAcc) fun t => .next (t.advanceFrom s)

/-- Put an operation where the host's next transaction is taken from, with no reset in that step. -/
def State.placeOp (s : State) (op : HostOp) : State :=
  { s with hostProg := op :: s.hostProg.tail, rstSched := false :: s.rstSched.tail }

/-- Make the next step form an FSM key: its state bit, a trigger edge for `TRG` (else `NOP`), the bus answer for `ACC`, and
for `LAST` a latched size that makes the current word the last one or not. `ACC` cannot be 1 in `IDLE`, where no
write is offered; there it is a free bit of both rows. -/
def State.placeFsmKey (s : State) (key : FsmKey) : State :=
  let t := s.placeOp (if key.getLsbD 2 then hostStart else hostNop)
  { t with
    currentState := if key.getLsbD 3 then .active else .idle
    trigPrev := if key.getLsbD 2 then false else t.trigPrev
    busSched := key.getLsbD 1 :: t.busSched.tail
    latSize := if t.last = key.getLsbD 0 then t.latSize
      else (t.wordsWritten + (if key.getLsbD 0 then 1 else 2)) % 2 ^ t.cfg.burstSizeW }

/-- Put the operation of a frame where the next step takes it from. -/
def State.placeFrame (s : State) : Frame → State
  | .csr key wdata => s.placeOp (.txn key wdata)
  | .fsm key => s.placeFsmKey key

end Sys2Proof.Machine
end

