-- ==== Sys2Proof/Machine/Step.lean ====
section
/-! DEFINITION. Machine/Step.lean: one step of the machine, and where a word of the opcode table is placed for it. -/

namespace Sys2Proof.Machine

/-- One step of the whole block (41_engine_fsm.md R140), its inputs taken from the state's schedules. -/
def step (s : State) : Host.Outcome State Fault Refusal := stepFromInputs s

/-- The state whose next step runs the operation of a word of the opcode table. A CSR word becomes the host's next
transaction; an FSM word is a key that the engine forms itself, so what it is formed from is set. A word that
is no frame leaves the state alone. -/
def State.withFetchWord (s : State) (nbits w : Nat) : State :=
  match frameOfTableWord nbits w with
  | none => s
  | some f => s.placeFrame f

end Sys2Proof.Machine
end

