-- ==== Sys2Proof/Machine/Target.lean ====
section
/-! DEFINITION. Machine/Target.lean: what the write log says of the target (42_bus_interface.md R179, R180) and what a reader of
the target sees of it under `TARGET_VISIBILITY` (20_memory.md R61, R175). Writes of other requesters (R176 (e)) are
outside: a claim excludes them by premise. -/

namespace Sys2Proof.Machine

/-- The byte that an accepted write puts at a byte address, if the address lies in its word (R52, R180). -/
def WriteEntry.byteAt (p : Params) (e : WriteEntry) (a : Nat) : Option Byte :=
  if byteAddr p e.waddr ≤ a ∧ a < byteAddr p e.waddr + p.wordBytes then
    some (wordByte p e.data (a - byteAddr p e.waddr))
  else none

/-- The target's byte by the last entry of `W` for its address (R180). -/
def targetByte (p : Params) (log : List WriteEntry) (a : Nat) : Option Byte :=
  log.foldl (fun seen e => (e.byteAt p a).or seen) none

/-- The byte a reader of the target sees at the start of step `now`, where a write is visible from step `vis` of it on:
the last visible entry of `W`. -/
def seenByte (vis : WriteEntry → Nat) (p : Params) (log : List WriteEntry) (now a : Nat) : Option Byte :=
  targetByte p (log.filter fun e => vis e ≤ now) a

/-- The visibility of the machine's own target: the OPEN parameter. -/
def targetVisibility (e : WriteEntry) : Nat := Config.visibleAt e.step e.waddr e.data

/-- What a reader of the machine's own target sees now. -/
def State.targetSeen (s : State) (a : Nat) : Option Byte := seenByte targetVisibility s.cfg s.writeLog s.stepNo a

/-- The target's memory made by performing the writes of a log in their order. -/
def replay (p : Params) (log : List WriteEntry) : Memory :=
  log.foldl (fun m e => m.writeWord p e.waddr e.data) []

end Sys2Proof.Machine
end

