-- ==== Sys2Proof/Safety.lean ====
section
/-! DEFINITION. Safety.lean: the terms in which claims about runs are put: the invariants, the launch premise, a fair bus, a
meaningful run and its end. -/

namespace Sys2Proof.Machine

/-- Every register holds a value of its width (00_scope.md R8, 10_state.md R20). -/
structure State.WidthsOk (s : State) : Prop where
  words_written : s.wordsWritten < 2 ^ s.cfg.burstSizeW
  pass_count : s.passCount < 2 ^ s.cfg.passW
  burst_size : s.burstSize < 2 ^ s.cfg.burstSizeW
  base_address : s.baseAddress < 2 ^ s.cfg.addrRegW
  address_offset : s.addressOffset < 2 ^ s.cfg.addrRegW
  lat_size : s.latSize < 2 ^ s.cfg.burstSizeW
  lat_base : s.latBase < 2 ^ s.cfg.addrRegW
  lat_offset : s.latOffset < 2 ^ s.cfg.addrRegW

/-- The position of a burst in range (10_state.md R39): idle with the counter at 0, or active below the latched size.
Only the `WRAP` policy has a burst of latched size 0, whose counter runs over its whole width. -/
def State.CounterOk (s : State) : Prop :=
  match s.currentState with
  | .idle => s.wordsWritten = 0
  | .active =>
    (1 ≤ s.latSize ∧ s.wordsWritten ≤ s.latSize - 1) ∨
      (s.cfg.zeroBurst = .wrap ∧ s.latSize = 0 ∧ s.wordsWritten ≤ 2 ^ s.cfg.burstSizeW - 1)

/-- The target's bytes are in canonical form and are what the write log leaves (42_bus_interface.md R180). -/
def State.TargetOk (s : State) : Prop := s.mem.wf ∧ s.mem = replay s.cfg s.writeLog

/-- The log is in the order of its step numbers, one entry a step at most, all in the past (20_memory.md R59,
42_bus_interface.md R172, R179). -/
def State.LogOk (s : State) : Prop :=
  (s.writeLog.Pairwise fun a b => a.step < b.step) ∧ ∀ e ∈ s.writeLog, e.step < s.stepNo

/-- The invariant of the whole machine. -/
structure State.Inv (s : State) : Prop where
  params : s.cfg.Ok
  widths : s.WidthsOk
  counter : s.CounterOk
  target : s.TargetOk
  log : s.LogOk

/-- `LaunchAfterReset` (70_reset_and_hazards.md R232): the reset state, in some configuration and with some inputs. -/
def State.LaunchAfterReset (s : State) : Prop :=
  s = { State.reset with cfg := s.cfg, hostProg := s.hostProg, busSched := s.busSched, rstSched := s.rstSched }

/-- A run that the model gives a meaning (60_exceptions.md R202). -/
def State.Meaningful (s : State) : Prop := s.refused = false

/-- `t` is the state after `n` steps from `s`. -/
def State.Reaches (s : State) (n : Nat) (t : State) : Prop := core.run n s = .next t

/-- No reset is scheduled. -/
def State.NoReset (s : State) : Prop := true ∉ s.rstSched

/-- The step about to be taken accepts a write: `accepted = wr_valid and wr_accept` (42_bus_interface.md R172), with no reset
(70_reset_and_hazards.md R231). -/
def State.accepting (s : State) : Bool := s.wrValid && s.nextAcc && !s.nextRst

/-- How many of the next `n` steps accept a write. -/
def State.acceptCount (s : State) : Nat → Nat
  | 0 => 0
  | n + 1 =>
    (if s.accepting then 1 else 0) +
      match step s with
      | .next t => t.acceptCount n
      | .fault _ => 0
      | .refused _ => 0

/-- `BUS_FAIR` (42_bus_interface.md R174): from every `ACTIVE` step of the run on, some step has `wr_accept = 1`.
DESIGN CHOICE (log entry 18, safe): the rule says "some later step", and here the `ACTIVE` step itself may be that step
(`n ≤ m`). So this premise is the weaker one, and what is proved from it holds under the literal one too. -/
def State.BusFair (s : State) : Prop :=
  ∀ n t, s.Reaches n t → t.currentState = .active →
    ∃ m u, n ≤ m ∧ s.Reaches m u ∧ u.nextAcc = true

/-- The operation is `NOP`: no transaction. -/
def HostOp.isNop (op : HostOp) : Prop := op.key.valid = false

/-- The conditions of 70_reset_and_hazards.md R252 at a step boundary. Nothing is asked of `rst`. -/
structure State.AtEnd (s : State) : Prop where
  /-- (a): the host program has issued its last operation, a `NOP` of the program among them. -/
  issued : s.hostProg = []
  /-- (b). -/
  idle : s.currentState = .idle
  /-- (c): the host's next input is `NOP`. So is every later one, since the program has ended (30_encoding.md R93). -/
  nop : s.nextOp.isNop

/-- `t`, after `n` steps from `s`, is the first step boundary of the run that meets the conditions of R252. -/
structure State.FirstAtEnd (s : State) (n : Nat) (t : State) : Prop where
  reaches : s.Reaches n t
  atEnd : t.AtEnd
  first : ∀ k u, k < n → s.Reaches k u → ¬u.AtEnd

/-- The run from `LaunchAfterReset` is quiescent after `n` steps, in state `t` (70_reset_and_hazards.md R252). -/
structure State.Quiescent (s : State) (n : Nat) (t : State) : Prop where
  launch : s.LaunchAfterReset
  firstAtEnd : s.FirstAtEnd n t

/-- The word address that a burst from the current registers writes first (41_engine_fsm.md R154), before truncation to
the width of the bus. -/
def State.firstWord (s : State) : Nat := (s.baseAddress >>> s.cfg.wordShift) + (s.addressOffset >>> s.cfg.wordShift)

/-- The word address that the burst of the latched copies writes first, before truncation (41_engine_fsm.md R150). -/
def State.latchedWord (s : State) : Nat := (s.latBase >>> s.cfg.wordShift) + (s.latOffset >>> s.cfg.wordShift)

/-- How many words the burst of the latched copies writes: `lat_size`, and `2^BURST_SIZE_W` for the latched size 0 of `WRAP`
(41_engine_fsm.md R153, R154). -/
def State.burstLength (s : State) : Nat := if s.latSize = 0 then 2 ^ s.cfg.burstSizeW else s.latSize

/-- The address and data of the accepted writes of a log, in order. -/
def wordsOf (log : List WriteEntry) : List (Nat × Nat) := log.map fun e => (e.waddr, e.data)

/-- The first `n` writes of a burst: consecutive word addresses from `first` on, one payload (41_engine_fsm.md R154). -/
def burstWords (p : Params) (first payload n : Nat) : List (Nat × Nat) :=
  (List.range n).map fun k => (trunc p.wordAddrW (first + k), payload)

/-- The trigger request of the step about to be taken gives a pulse (41_engine_fsm.md R142). -/
def State.pulsing (s : State) : Bool :=
  triggerPulse s.cfg.triggerMode (triggerLevel (hostInstr s.cfg s.nextOp)) s.trigPrev

end Sys2Proof.Machine
end

