-- ==== Sys2Proof/Certificates/Slice0/Obligations.lean ====
section
/-! DEFINITION. Certificates/Slice0/Obligations.lean: the statements about the model that are to be settled.

They are stated for every configuration of 00_scope.md R6 unless a premise names the defaults (92_eei_decisions.md D25).
`exec i s` is one half of a step (Machine/Csr.lean, Machine/Engine.lean); `globalStep` is `Step(S, h, rst, acc)` of
41_engine_fsm.md R140; `step` takes those inputs from the state. A record update `{ s with … }` in a conclusion names
every field that changes: all other fields, and every byte of memory unless `mem` is named, are as before. -/

open Sys2Proof Sys2Proof.Machine

/-! ## Encoding -/

/-- Every operation whose operands fit their fields is read back from its encoding (30_encoding.md R81 to R84). -/
def Obligations.DecodeEncodeRoundTrip : Prop :=
  ∀ (p : Params) (i : Instr), i.wellFormed p = true → decode p (encode i) = .ok i

/-- A transaction that decodes is read back from its operation: the whole key, and the data word where it is a write. The
operation is well formed (30_encoding.md R81, R82). -/
def Obligations.EncodeDecodeCsrKey : Prop :=
  ∀ (p : Params) (key : CsrKey) (wdata : Nat) (i : Instr), decodeCsr p key wdata = .ok i →
    i.wellFormed p = true ∧
      encode i = .csr key (if key.valid && key.we then trunc p.csrDataW wdata else 0)

/-- 30_encoding.md R84: the five patterns are disjoint and cover all 16 keys; the decoder answers the one row that
matches, and the encoder gives the key back. -/
def Obligations.FsmRowsPartitionKeys : Prop :=
  ∀ key : FsmKey, (Frame.fsm key).rows = [(decodeFsm key).mnemonic] ∧ encode (decodeFsm key) = .fsm key

/-- 30_encoding.md R88 (a) to (c): which keys with `VALID = 1` are refused; all others give an operation. -/
def Obligations.CsrKeysRefusedExactly : Prop :=
  ∀ (p : Params) (key : CsrKey) (wdata : Nat), key.valid = true →
    ((decodeCsr p key wdata = .error (.badCsrKey key)) ↔
      (key.rsv ≠ 0 ∨
        ¬(key.offset = 0x00 ∨ key.offset = 0x04 ∨ key.offset = 0x08 ∨ key.offset = 0x0C ∨ key.offset = 0x10 ∨
          key.offset = 0x14) ∨
        (key.we = true ∧ (key.offset = 0x04 ∨ key.offset = 0x14)))) ∧
    (decodeCsr p key wdata = .error (.badCsrKey key) ∨ ∃ i, decodeCsr p key wdata = .ok i)

/-- 30_encoding.md R88, machine-readable form: a key is refused exactly when `VALID = 1` and no row of the table matches;
a key that decodes matches the row of its operation and no other (R82). -/
def Obligations.CsrKeysRefusedWhereNoRowMatches : Prop :=
  ∀ (p : Params) (key : CsrKey) (wdata : Nat),
    (decodeCsr p key wdata = .error (.badCsrKey key) ↔
      key.valid = true ∧ (Frame.csr key wdata).rows = []) ∧
    ∀ i, decodeCsr p key wdata = .ok i → (Frame.csr key wdata).rows = [i.mnemonic]

/-- Words written out from the tables of 30_encoding.md R82 and R84 decode to the operations they stand for. The keys are the
spec's. Where a word carries them is the model's choice (log entry 9): the key in bits 16:0, the data word from bit 24 on,
and a data word of 0 in a word that has none. -/
def Obligations.TableWordsDecode : Prop :=
  decodeTableWord 24 0x18008 = some (.csrwBurstSize 0) ∧
  decodeTableWord 56 (0x12345 * 2 ^ 24 + 0x1800C) = some (.csrwBaseAddress 0x12345) ∧
  decodeTableWord 24 0x10014 = some .csrrPassCount ∧
  decodeTableWord 24 0x0FFFF = some (.nop 0xFFFF) ∧
  decodeTableWord 24 0x18004 = none ∧
  decodeTableWord 8 0b1011 = some (.activeComplete false) ∧
  decodeTableWord 8 0b1100 = some (.activeStall true false)

/-- 30_encoding.md R81: the key of a host access by byte address, with the bank at `base`; an address outside the window
of 0x100 bytes is no transaction of the block. -/
def Obligations.HostAccessByAddress : Prop :=
  ∀ (base addr : Nat) (we : Bool) (wdata : Nat),
    (∀ off : Nat, off ≤ 0xFF → addr = base + off →
      let op := hostAccess base addr we wdata
      op.key.valid = true ∧ op.key.we = we ∧ op.key.rsv = 0 ∧ op.key.offset = BitVec.ofNat 8 off ∧
        op.wdata = wdata) ∧
    (addr < base ∨ base + 0xFF < addr → (hostAccess base addr we wdata).key.valid = false)

/-- 10_state.md R27, 40_csr_access.md R120: the register bank. Each register's offset and default width; every one can be
read, and every one but `ready` and `pass_count` written. -/
def Obligations.RegisterMap : Prop :=
  ∀ (p : Params) (wdata : Nat) (r : CsrReg),
    (r.offset.toNat, csrWidth Config.defaults r) = (match r with
      | .startTrigger => (0x00, 1)
      | .ready => (0x04, 8)
      | .burstSize => (0x08, 16)
      | .baseAddress => (0x0C, 32)
      | .addressOffset => (0x10, 32)
      | .passCount => (0x14, 5)) ∧
    (∃ i, decodeCsr p (csrKey false r.offset) wdata = .ok i) ∧
    ((∃ i, decodeCsr p (csrKey true r.offset) wdata = .ok i) ↔ r ≠ .ready ∧ r ≠ .passCount)

/-! ## The host's operations: result, completion and frame -/

/-- 40_csr_access.md R105. -/
def Obligations.NopClearsTrigPrev : Prop :=
  (∀ (p : Params) (key : CsrKey) (wdata : Nat), key.valid = false → ∃ n, decodeCsr p key wdata = .ok (.nop n)) ∧
  ∀ (n : Nat) (s : State), exec (.nop n) s = .next { s with trigPrev := false }

/-- 40_csr_access.md R110: bit 0 of the data word is the request, kept in `trig_prev`; no register is written. -/
def Obligations.TriggerWriteRecordsRequest : Prop :=
  (∀ (p : Params) (wdata : Nat),
    decodeCsr p 0x18000 wdata = .ok (.csrwStartTrigger (trunc p.csrDataW wdata))) ∧
  ∀ (wdata : Nat) (s : State), exec (.csrwStartTrigger wdata) s = .next { s with trigPrev := wdata % 2 == 1 }

/-- 40_csr_access.md R111: any word of `CSR_DATA_W` bits, the draw of the step (log entry 3), and no side effect. -/
def Obligations.TriggerReadIsDraw : Prop :=
  (∀ (p : Params) (wdata : Nat), decodeCsr p 0x10000 wdata = .ok .csrrStartTrigger) ∧
  ∀ s : State, exec .csrrStartTrigger s =
    .next { s with rdata := some (Config.rdataDraw s.stepNo % 2 ^ s.cfg.csrDataW), trigPrev := false }

/-- 40_csr_access.md R112, R102. -/
def Obligations.BurstSizeWriteTruncates : Prop :=
  (∀ (p : Params) (wdata : Nat),
    decodeCsr p 0x18008 wdata = .ok (.csrwBurstSize (trunc p.csrDataW wdata))) ∧
  ∀ (wdata : Nat) (s : State), exec (.csrwBurstSize wdata) s =
    .next { s with burstSize := wdata % 2 ^ s.cfg.burstSizeW, trigPrev := false }

/-- 40_csr_access.md R113, R101: the register in the low bits, the draw of the step above. -/
def Obligations.BurstSizeReadReturnsRegister : Prop :=
  (∀ (p : Params) (wdata : Nat), decodeCsr p 0x10008 wdata = .ok .csrrBurstSize) ∧
  ∀ s : State, s.WidthsOk → exec .csrrBurstSize s =
    .next { s with
      rdata := some (s.burstSize +
        2 ^ s.cfg.burstSizeW * (Config.rdataDraw s.stepNo % 2 ^ (s.cfg.csrDataW - s.cfg.burstSizeW)))
      trigPrev := false }

/-- 40_csr_access.md R114. -/
def Obligations.BaseAddressWriteStores : Prop :=
  (∀ (p : Params) (wdata : Nat),
    decodeCsr p 0x1800C wdata = .ok (.csrwBaseAddress (trunc p.csrDataW wdata))) ∧
  ∀ (wdata : Nat) (s : State), exec (.csrwBaseAddress wdata) s =
    .next { s with baseAddress := wdata % 2 ^ s.cfg.addrRegW, trigPrev := false }

/-- 40_csr_access.md R115: all bits of the register, bits 1:0 among them; no draw bits where the register is as wide as
the transfer, as at the defaults. -/
def Obligations.BaseAddressReadReturnsRegister : Prop :=
  (∀ (p : Params) (wdata : Nat), decodeCsr p 0x1000C wdata = .ok .csrrBaseAddress) ∧
  (∀ s : State, s.WidthsOk → exec .csrrBaseAddress s =
    .next { s with
      rdata := some (s.baseAddress +
        2 ^ s.cfg.addrRegW * (Config.rdataDraw s.stepNo % 2 ^ (s.cfg.csrDataW - s.cfg.addrRegW)))
      trigPrev := false }) ∧
  ∀ s : State, s.WidthsOk → s.cfg.addrRegW = s.cfg.csrDataW → exec .csrrBaseAddress s =
    .next { s with rdata := some s.baseAddress, trigPrev := false }

/-- 40_csr_access.md R116. -/
def Obligations.AddressOffsetWriteStores : Prop :=
  (∀ (p : Params) (wdata : Nat),
    decodeCsr p 0x18010 wdata = .ok (.csrwAddressOffset (trunc p.csrDataW wdata))) ∧
  ∀ (wdata : Nat) (s : State), exec (.csrwAddressOffset wdata) s =
    .next { s with addressOffset := wdata % 2 ^ s.cfg.addrRegW, trigPrev := false }

/-- 40_csr_access.md R117: the register, not `lat_offset`. -/
def Obligations.AddressOffsetReadReturnsRegister : Prop :=
  (∀ (p : Params) (wdata : Nat), decodeCsr p 0x10010 wdata = .ok .csrrAddressOffset) ∧
  (∀ s : State, s.WidthsOk → exec .csrrAddressOffset s =
    .next { s with
      rdata := some (s.addressOffset +
        2 ^ s.cfg.addrRegW * (Config.rdataDraw s.stepNo % 2 ^ (s.cfg.csrDataW - s.cfg.addrRegW)))
      trigPrev := false }) ∧
  ∀ s : State, s.WidthsOk → s.cfg.addrRegW = s.cfg.csrDataW → exec .csrrAddressOffset s =
    .next { s with rdata := some s.addressOffset, trigPrev := false }

/-- 40_csr_access.md R118: bit 0 is 1 exactly in `IDLE`; all other bits are the draw of the step. -/
def Obligations.ReadyReadShowsIdle : Prop :=
  (∀ (p : Params) (wdata : Nat), decodeCsr p 0x10004 wdata = .ok .csrrReady) ∧
  ∀ s : State, exec .csrrReady s =
    .next { s with
      rdata := some ((if s.currentState = .idle then 1 else 0) +
        2 * (Config.rdataDraw s.stepNo % 2 ^ (s.cfg.csrDataW - 1)))
      trigPrev := false }

/-- 40_csr_access.md R119. -/
def Obligations.PassCountReadReturnsCounter : Prop :=
  (∀ (p : Params) (wdata : Nat), decodeCsr p 0x10014 wdata = .ok .csrrPassCount) ∧
  ∀ s : State, s.WidthsOk → exec .csrrPassCount s =
    .next { s with
      rdata := some (s.passCount +
        2 ^ s.cfg.passW * (Config.rdataDraw s.stepNo % 2 ^ (s.cfg.csrDataW - s.cfg.passW)))
      trigPrev := false }

/-! ## The engine's transitions: result, completion and frame -/

/-- 41_engine_fsm.md R145: the keys of the row, and what it does whatever `ACC` and `LAST` are. In `IDLE` nothing is
offered. -/
def Obligations.IdleHoldEffect : Prop :=
  (∀ key : FsmKey, key &&& 0b1100 = 0b0000 → ∃ acc last, decodeFsm key = .idleHold acc last) ∧
  (∀ s : State, s.currentState = .idle → s.wrValid = false) ∧
  ∀ (acc last : Bool) (s : State), exec (.idleHold acc last) s =
    .next { s with currentState := .idle, wordsWritten := 0 }

/-- 41_engine_fsm.md R146: the keys of the row; the configuration is latched and the engine becomes active. -/
def Obligations.IdleStartLatchesConfiguration : Prop :=
  (∀ key : FsmKey, key &&& 0b1100 = 0b0100 → ∃ acc last, decodeFsm key = .idleStart acc last) ∧
  ∀ (acc last : Bool) (s : State), s.burstSize ≠ 0 → exec (.idleStart acc last) s =
    .next { s with
      currentState := .active
      latSize := s.burstSize
      latBase := s.baseAddress
      latOffset := s.addressOffset
      wordsWritten := 0 }

/-- 41_engine_fsm.md R153: the five policies for a trigger with `burst_size == 0`. -/
def Obligations.ZeroBurstPolicies : Prop :=
  ∀ (acc last : Bool) (s : State), s.burstSize = 0 → exec (.idleStart acc last) s =
    .next (match s.cfg.zeroBurst with
      | .refuse => { s with currentState := .idle, wordsWritten := 0, refused := true,
                            raised := s.raised ++ [.zeroBurst] }
      | .skip => { s with currentState := .idle, wordsWritten := 0 }
      | .skipCount => { s with currentState := .idle, wordsWritten := 0,
                               passCount := (s.passCount + 1) % 2 ^ s.cfg.passW }
      | .asOne => { s with currentState := .active, wordsWritten := 0, latSize := 1, latBase := s.baseAddress,
                           latOffset := s.addressOffset }
      | .wrap => { s with currentState := .active, wordsWritten := 0, latSize := 0, latBase := s.baseAddress,
                          latOffset := s.addressOffset })

/-- 41_engine_fsm.md R147: the keys of the row; in an active state one entry in `W`, the word's bytes at the target big-endian and no other
byte changed (20_memory.md R52, 42_bus_interface.md R179, R180), and the counter one up. -/
def Obligations.AdvanceWritesAndCounts : Prop :=
  (∀ key : FsmKey, key &&& 0b1011 = 0b1010 → ∃ trg, decodeFsm key = .activeAdvance trg) ∧
  ∀ (trg : Bool) (s : State), s.currentState = .active → ∃ m : Memory,
    exec (.activeAdvance trg) s = .next { s with
      currentState := .active
      wordsWritten := s.wordsWritten + 1
      writeLog := s.writeLog ++ [⟨s.stepNo, s.wordAddr, s.payload⟩]
      mem := m } ∧
    ∀ a, m.read a =
      if byteAddr s.cfg s.wordAddr ≤ a ∧ a < byteAddr s.cfg s.wordAddr + s.cfg.wordBytes then
        some (wordByte s.cfg s.payload (a - byteAddr s.cfg s.wordAddr))
      else s.mem.read a

/-- 41_engine_fsm.md R148: the keys of the row; the terminal write lands as any other; then idle, the counter at 0 and `pass_count` one up modulo
`2^PASS_W`. The entry carries the old `pass_count`. -/
def Obligations.CompleteWritesAndReturnsToIdle : Prop :=
  (∀ key : FsmKey, key &&& 0b1011 = 0b1011 → ∃ trg, decodeFsm key = .activeComplete trg) ∧
  ∀ (trg : Bool) (s : State), ∃ m : Memory,
    exec (.activeComplete trg) s = .next { s with
      currentState := .idle
      wordsWritten := 0
      passCount := (s.passCount + 1) % 2 ^ s.cfg.passW
      writeLog := s.writeLog ++ [⟨s.stepNo, s.wordAddr, s.payload⟩]
      mem := m } ∧
    ∀ a, m.read a =
      if byteAddr s.cfg s.wordAddr ≤ a ∧ a < byteAddr s.cfg s.wordAddr + s.cfg.wordBytes then
        some (wordByte s.cfg s.payload (a - byteAddr s.cfg s.wordAddr))
      else s.mem.read a

/-- 41_engine_fsm.md R149: the keys of the row; no field is written. -/
def Obligations.StallChangesNothing : Prop :=
  (∀ key : FsmKey, key &&& 0b1010 = 0b1000 → ∃ trg last, decodeFsm key = .activeStall trg last) ∧
  ∀ (trg last : Bool) (s : State), exec (.activeStall trg last) s = .next s

/-- 41_engine_fsm.md R150 at the default widths, in a state that meets 10_state.md R39: the address is the exact sum of the
two word-shifted registers and the counter, and the truncation never changes it. -/
def Obligations.WordAddressIsExactSum : Prop :=
  ∀ s : State, s.cfg = { Config.defaults with zeroBurst := s.cfg.zeroBurst, triggerMode := s.cfg.triggerMode } →
    s.WidthsOk → s.CounterOk → s.currentState = .active →
    s.wordAddr = s.latBase / 4 + s.latOffset / 4 + s.wordsWritten ∧ s.wordAddr ≤ 0x8000FFFD ∧
      (s.cfg.zeroBurst ≠ .wrap → s.wordAddr ≤ 0x8000FFFC)

/-- 41_engine_fsm.md R151 and 20_memory.md R52 at the default widths: the payload is `pass_count`, and of the bytes of its
word the last, at the highest address, holds it while the others are 0. -/
def Obligations.PayloadIsPassCount : Prop :=
  ∀ s : State, s.cfg = { Config.defaults with zeroBurst := s.cfg.zeroBurst, triggerMode := s.cfg.triggerMode } →
    s.WidthsOk →
    s.payload = s.passCount ∧ wordByte s.cfg s.payload 0 = 0 ∧ wordByte s.cfg s.payload 1 = 0 ∧
      wordByte s.cfg s.payload 2 = 0 ∧ wordByte s.cfg s.payload 3 = BitVec.ofNat 8 s.passCount

/-- 41_engine_fsm.md R152, R153: in an active state the terminal test is `words_written == lat_size - 1`, and for the latched
size 0 of `WRAP` `words_written == 2^BURST_SIZE_W - 1`. Where it fails the counter is below that and has room for the next
word (R147). -/
def Obligations.TerminalTestExact : Prop :=
  ∀ s : State, s.WidthsOk → s.CounterOk → s.currentState = .active →
    (1 ≤ s.latSize →
      (s.last = true ↔ s.wordsWritten = s.latSize - 1) ∧ (s.last = false ↔ s.wordsWritten < s.latSize - 1)) ∧
    (s.latSize = 0 →
      (s.last = true ↔ s.wordsWritten = 2 ^ s.cfg.burstSizeW - 1) ∧
      (s.last = false ↔ s.wordsWritten < 2 ^ s.cfg.burstSizeW - 1)) ∧
    (s.last = false → s.wordsWritten + 1 < 2 ^ s.cfg.burstSizeW)

/-! ## One step of the whole block -/

/-- A step runs the decoded operation: where the host's transaction decodes and there is no reset, a step is the outputs, then
`exec` of the operation, then `exec` of the transition whose row matches the key formed at the start of the step
(30_encoding.md R83, 41_engine_fsm.md R144), then the inputs moving on. Running the transition on the result of the
operation is the model's arrangement (log entry 7), and so are the inputs held in the state (log entries 3 and 4). That
every part reads the start of the step, as R140 says, is `StepPartsReadStart`. -/
def Obligations.StepRunsDecodedOperations : Prop :=
  ∀ (s : State) (i : Instr), s.nextRst = false → decodeCsr s.cfg s.nextOp.key s.nextOp.wdata = .ok i →
    step s =
      andThen (exec i s.present) fun u =>
        andThen (exec (decodeFsm (s.fsmKey (triggerLevel i) s.nextAcc)) u) fun t => .next (t.advanceFrom s)

/-- 41_engine_fsm.md R140, 60_exceptions.md R205: every part of a step reads its start. `h` is what the host's operation alone
makes of the start of the step, `e` what the selected transition alone makes of it: the step takes the host's registers,
`trig_prev` and `RDATA` from the one and every other field of the block from the other. -/
def Obligations.StepPartsReadStart : Prop :=
  ∀ (s : State) (i : Instr), s.nextRst = false → decodeCsr s.cfg s.nextOp.key s.nextOp.wdata = .ok i →
    ∃ h e t, exec i s.present = .next h ∧
      exec (decodeFsm (s.fsmKey (triggerLevel i) s.nextAcc)) s.present = .next e ∧ step s = .next t ∧
      t.burstSize = h.burstSize ∧ t.baseAddress = h.baseAddress ∧ t.addressOffset = h.addressOffset ∧
      t.trigPrev = h.trigPrev ∧ t.rdata = h.rdata ∧
      t.currentState = e.currentState ∧ t.wordsWritten = e.wordsWritten ∧ t.passCount = e.passCount ∧
      t.latSize = e.latSize ∧ t.latBase = e.latBase ∧ t.latOffset = e.latOffset ∧ t.writeLog = e.writeLog ∧
      t.mem = e.mem ∧ t.refused = e.refused ∧ t.raised = e.raised ∧ t.offer = s.present.offer

/-- The transition of a step by its state and inputs (41_engine_fsm.md R144, 30_encoding.md R83, R84). -/
def Obligations.TransitionSelectedByKey : Prop :=
  ∀ (s : State) (lvl acc : Bool),
    let pulse := triggerPulse s.cfg.triggerMode lvl s.trigPrev
    decodeFsm (s.fsmKey lvl acc) =
      match s.currentState with
      | .idle => if pulse then .idleStart false s.last else .idleHold false s.last
      | .active =>
        if acc then (if s.last then .activeComplete pulse else .activeAdvance pulse) else .activeStall pulse s.last

/-- 41_engine_fsm.md R144, 60_exceptions.md R200, R202: the engine is never stuck, and neither a fault nor a refusal ends a
run; a step answers a state in every state. -/
def Obligations.StepAlwaysAnswers : Prop := ∀ s : State, ∃ t, step s = .next t

/-- 40_csr_access.md R103: a step with a refused key is the step with `NOP` in its place, with the mark set and the reason
reported. -/
def Obligations.RefusedKeyActsAsNop : Prop :=
  ∀ (s : State) (key : CsrKey) (wdata : Nat) (rest : List HostOp),
    s.nextRst = false → s.hostProg = .txn key wdata :: rest →
    decodeCsr s.cfg key wdata = .error (.badCsrKey key) →
    ∃ u, step { s with hostProg := hostNop :: rest } = .next u ∧
      step s = .next { u with refused := true, raised := [.badCsrKey key] } ∧ u.rdata = none

/-- 70_reset_and_hazards.md R231, R230: a step with reset. The latched copies, whose reset value the spec leaves open, are
not named. -/
def Obligations.ResetEventEffect : Prop :=
  ∀ s : State, s.nextRst = true → ∃ t, step s = .next t ∧
    t.currentState = .idle ∧ t.ready = true ∧ t.wordsWritten = 0 ∧ t.passCount = 0 ∧ t.burstSize = 0 ∧
    t.baseAddress = 0 ∧ t.addressOffset = 0 ∧ t.trigPrev = false ∧ t.offer = none ∧ t.rdata = none ∧ t.raised = [] ∧
    t.writeLog = s.writeLog ∧ t.refused = s.refused ∧ t.mem = s.mem ∧ t.cfg = s.cfg

/-- 70_reset_and_hazards.md R230: the values the spec gives for the state after reset. -/
def Obligations.ResetStateValues : Prop :=
  State.reset.currentState = .idle ∧ State.reset.ready = true ∧ State.reset.wordsWritten = 0 ∧
  State.reset.passCount = 0 ∧ State.reset.burstSize = 0 ∧ State.reset.baseAddress = 0 ∧
  State.reset.addressOffset = 0 ∧ State.reset.trigPrev = false

/-- 41_engine_fsm.md R141, 42_bus_interface.md R171: whatever the inputs, the offer of a step without reset is the one that
its start state fixes, and in `IDLE` the bus's answer is ignored. -/
def Obligations.OfferFixedByState : Prop :=
  ∀ (s : State) (op : HostOp),
    (∀ acc, ∃ t, globalStep s op false acc = .next t ∧
      t.offer = if s.currentState = .active then some ⟨s.wordAddr, s.payload⟩ else none) ∧
    (s.currentState = .idle → ∀ rst, globalStep s op rst true = globalStep s op rst false)

/-- 41_engine_fsm.md R143, 70_reset_and_hazards.md R240: in an active step, the terminal one included, a trigger write does
nothing but set `trig_prev`; the rest is as with `NOP`. -/
def Obligations.TriggerWhileActiveDropped : Prop :=
  ∀ (s : State) (wdata : Nat) (acc : Bool), s.cfg.Ok → s.currentState = .active →
    ∃ u, globalStep s hostNop false acc = .next u ∧
      globalStep s (.txn 0x18000 wdata) false acc = .next { u with trigPrev := wdata % 2 == 1 }

/-- 70_reset_and_hazards.md R241, 20_memory.md R64: in an active step a configuration write changes its register and nothing
else; the burst goes on as with `NOP`. -/
def Obligations.MidBurstConfigurationHarmless : Prop :=
  ∀ (s : State) (wdata : Nat) (acc : Bool), s.cfg.Ok → s.currentState = .active →
    ∃ u, globalStep s hostNop false acc = .next u ∧
      globalStep s (.txn 0x18008 wdata) false acc = .next { u with burstSize := wdata % 2 ^ s.cfg.burstSizeW } ∧
      globalStep s (.txn 0x1800C wdata) false acc = .next { u with baseAddress := wdata % 2 ^ s.cfg.addrRegW } ∧
      globalStep s (.txn 0x18010 wdata) false acc = .next { u with addressOffset := wdata % 2 ^ s.cfg.addrRegW }

/-- 42_bus_interface.md R173: after an active step whose offer is not accepted, the next step offers the identical address
and data, whatever the host did. -/
def Obligations.StallHoldsOffer : Prop :=
  ∀ s t : State, s.currentState = .active → s.nextRst = false → s.nextAcc = false → step s = .next t →
    t.currentState = .active ∧ t.wordAddr = s.wordAddr ∧ t.payload = s.payload ∧
    t.wordsWritten = s.wordsWritten ∧ t.passCount = s.passCount ∧ t.writeLog = s.writeLog ∧ t.mem = s.mem

/-- 10_state.md R26, 41_engine_fsm.md R143, R146, R153, R155: when the engine is active after a step. A burst is left only
by its terminal write or by reset; one is entered only from idle, by a pulse. -/
def Obligations.EngineActiveExactlyWhen : Prop :=
  ∀ s t : State, step s = .next t →
    (t.currentState = .active ↔ s.nextRst = false ∧
      ((s.currentState = .idle ∧ s.pulsing = true ∧
          (s.burstSize ≠ 0 ∨ s.cfg.zeroBurst = .asOne ∨ s.cfg.zeroBurst = .wrap)) ∨
        (s.currentState = .active ∧ ¬(s.nextAcc = true ∧ s.last = true))))

/-- 10_state.md R24, 42_bus_interface.md R172: what a step does to `words_written`. -/
def Obligations.WordsWrittenRule : Prop :=
  ∀ s t : State, step s = .next t →
    t.wordsWritten =
      if s.nextRst = true ∨ s.currentState = .idle ∨ (s.accepting = true ∧ s.last = true) then 0
      else if s.accepting = true then s.wordsWritten + 1
      else s.wordsWritten

/-- 10_state.md R25, 41_engine_fsm.md R148, R153: what a step does to `pass_count`. -/
def Obligations.PassCountRule : Prop :=
  ∀ s t : State, step s = .next t →
    t.passCount =
      if s.nextRst = true then 0
      else if (s.accepting = true ∧ s.last = true) ∨
          (s.currentState = .idle ∧ s.pulsing = true ∧ s.burstSize = 0 ∧ s.cfg.zeroBurst = .skipCount) then
        (s.passCount + 1) % 2 ^ s.cfg.passW
      else s.passCount

/-- 10_state.md R34: without reset, the latched copies are loaded from the registers by a start of a burst, and nothing else
writes them. -/
def Obligations.LatchedCopiesRule : Prop :=
  ∀ s t : State, s.nextRst = false → step s = .next t →
    if s.currentState = .idle ∧ t.currentState = .active then
      (s.burstSize ≠ 0 → t.latSize = s.burstSize) ∧ t.latBase = s.baseAddress ∧ t.latOffset = s.addressOffset
    else t.latSize = s.latSize ∧ t.latBase = s.latBase ∧ t.latOffset = s.latOffset

/-- 10_state.md R38: the host's operations write no field of the engine but `trig_prev` (written in the host's half of a step
by the model's choice, log entry 7), and the engine's transitions write no register of the host. -/
def Obligations.OwnershipPartitioned : Prop :=
  ∀ (i : Instr) (s t : State), exec i s = .next t →
    (∀ key wdata, encode i = .csr key wdata →
      t.currentState = s.currentState ∧ t.wordsWritten = s.wordsWritten ∧ t.passCount = s.passCount ∧
      t.latSize = s.latSize ∧ t.latBase = s.latBase ∧ t.latOffset = s.latOffset ∧
      t.writeLog = s.writeLog ∧ t.mem = s.mem ∧ t.refused = s.refused) ∧
    (∀ key, encode i = .fsm key →
      t.burstSize = s.burstSize ∧ t.baseAddress = s.baseAddress ∧ t.addressOffset = s.addressOffset ∧
      t.trigPrev = s.trigPrev ∧ t.rdata = s.rdata)

/-- 40_csr_access.md R104: a configuration write is there in any later step, if no reset and no write of the same register
came between. The step after `n` more has the value that a read returns (R113, R115, R117). -/
def Obligations.ConfigurationReadsBack : Prop :=
  ∀ (r : CsrReg) (s t : State) (wdata n : Nat) (ops : List HostOp),
    (r = .burstSize ∨ r = .baseAddress ∨ r = .addressOffset) →
    s.cfg.Ok → s.NoReset → s.hostProg = hostCsrw r wdata :: ops →
    (∀ op ∈ ops, op.key ≠ csrKey true r.offset) →
    s.Reaches (n + 1) t →
    t.csrValue r = wdata % 2 ^ csrWidth s.cfg r

/-- 41_engine_fsm.md R142, 70_reset_and_hazards.md R243: after a step without reset, a request gives a pulse under `EDGE`
exactly when that step carried none, and under `PER_WRITE` always. So a held request gives one pulse, dropped or not. -/
def Obligations.PulseOnRisingEdge : Prop :=
  ∀ s t : State, s.nextRst = false → step s = .next t →
    t.pulsing =
      match s.cfg.triggerMode with
      | .edge => triggerLevel (hostInstr t.cfg t.nextOp) && !triggerLevel (hostInstr s.cfg s.nextOp)
      | .perWrite => triggerLevel (hostInstr t.cfg t.nextOp)

/-- 70_reset_and_hazards.md R242 (a), 41_engine_fsm.md R146: a trigger taken in one step gives `ready = 0` and the first offer
in the next, and offers nothing in its own. -/
def Obligations.FirstOfferFollowsTrigger : Prop :=
  ∀ s t u : State, s.currentState = .idle → s.nextRst = false → s.pulsing = true → s.burstSize ≠ 0 →
    step s = .next t → t.nextRst = false → step t = .next u →
    t.offer = none ∧ t.ready = false ∧
      u.offer = some ⟨trunc s.cfg.wordAddrW s.firstWord, s.payload⟩

/-- 42_bus_interface.md R179, 70_reset_and_hazards.md R231: a step appends the accepted write to `W`, or nothing; it never
shortens the log, not even at reset. -/
def Obligations.WriteLogAppends : Prop :=
  ∀ s t : State, step s = .next t →
    t.writeLog = s.writeLog ++ (if s.accepting = true then [⟨s.stepNo, s.wordAddr, s.payload⟩] else [])

/-- 60_exceptions.md R202: the mark is set exactly by a step that reports a reason, and stays; without reset the reasons are
a refused key, and a pulse in idle with size 0 under `REFUSE`. -/
def Obligations.RefusalMarkRule : Prop :=
  ∀ s t : State, step s = .next t →
    (t.refused = true ↔ s.refused = true ∨ t.raised ≠ []) ∧
    (∀ key, .badCsrKey key ∈ t.raised ↔
      s.nextRst = false ∧ s.nextOp.key = key ∧
        decodeCsr s.cfg key s.nextOp.wdata = .error (.badCsrKey key)) ∧
    (.zeroBurst ∈ t.raised ↔
      s.nextRst = false ∧ s.currentState = .idle ∧ s.pulsing = true ∧ s.burstSize = 0 ∧ s.cfg.zeroBurst = .refuse)

/-- 60_exceptions.md R202: the mark is never cleared, so a run that is meaningful at its end was so all along. -/
def Obligations.RefusalMarkSticky : Prop :=
  ∀ (s t : State) (n : Nat), s.Reaches n t → t.Meaningful → s.Meaningful

/-- 30_encoding.md R92: `WAITRDY` reads `READY` in each step and ends after the first read whose bit 0 is 1. -/
def Obligations.WaitRdyEndsWhenReady : Prop :=
  ∀ (s : State) (rest : List HostOp), s.hostProg = .waitRdy :: rest → s.nextRst = false →
    ∃ t r, step s = .next t ∧ t.rdata = some r ∧ (r % 2 = 1 ↔ s.currentState = .idle) ∧
      t.hostProg = if r % 2 = 1 then rest else .waitRdy :: rest

/-- 70_reset_and_hazards.md R252: a state at the end of a run stays as it is in a step with `rst = 0`, but for `trig_prev`,
and stays at the end. The fields of the model's own inputs and outputs (log entries 3, 4, 5) move on. -/
def Obligations.QuiescentStateStays : Prop :=
  ∀ s : State, s.AtEnd → s.nextRst = false → s.CounterOk → ∃ t, step s = .next t ∧ t.AtEnd ∧
    t = { s with
      trigPrev := false
      stepNo := s.stepNo + 1
      busSched := s.busSched.tail
      rstSched := s.rstSched.tail
      rdata := none
      offer := none
      raised := [] }

/-- 70_reset_and_hazards.md R252, R232: a run from launch is quiescent at one step boundary at most, the first that meets the
conditions, and what a claim reads there is final: every later state, if no reset comes after the end, meets the conditions
and holds the same in every field of the block but `trig_prev`, in `W`, in `refused` and at the target. A reset before the
end does not matter. -/
def Obligations.QuiescenceIsFinal : Prop :=
  ∀ (s t : State) (n : Nat), s.Quiescent n t →
    (∀ n' t', s.Quiescent n' t' → n' = n ∧ t' = t) ∧
    (∀ (m : Nat) (u : State), t.NoReset → t.Reaches m u →
      u.AtEnd ∧ u.currentState = .idle ∧ u.wordsWritten = t.wordsWritten ∧ u.passCount = t.passCount ∧
      u.burstSize = t.burstSize ∧ u.baseAddress = t.baseAddress ∧ u.addressOffset = t.addressOffset ∧
      u.latSize = t.latSize ∧ u.latBase = t.latBase ∧ u.latOffset = t.latOffset ∧
      u.trigPrev = (t.trigPrev && decide (m = 0)) ∧ u.writeLog = t.writeLog ∧ u.refused = t.refused ∧
      u.mem = t.mem)

/-! ## Invariants -/

/-- The invariant of the machine holds at reset: widths, 10_state.md R39, the target and the log. -/
def Obligations.ResetMeetsInvariant : Prop := State.reset.Inv

/-- Every step keeps the invariant of the machine: every register within its width (00_scope.md R8), the counter in the range
of 10_state.md R39, the target's memory in canonical form and equal to the replay of `W` (42_bus_interface.md R180), and
`W` in the order of its steps (20_memory.md R59). -/
def Obligations.StepKeepsInvariant : Prop := ∀ s t : State, s.Inv → step s = .next t → t.Inv

/-- 10_state.md R39 on a run from launch, for every policy but `WRAP`. -/
def Obligations.LaunchedRunsStayInRange : Prop :=
  ∀ (s t : State) (n : Nat), s.LaunchAfterReset → s.cfg.Ok → s.cfg.zeroBurst ≠ .wrap → s.Reaches n t →
    (t.currentState = .idle → t.wordsWritten = 0) ∧
    (t.currentState = .active → 1 ≤ t.latSize ∧ t.wordsWritten ≤ t.latSize - 1)

/-! ## Bursts -/

/-- 41_engine_fsm.md R154 (a), (b), (d), 20_memory.md R59: a burst of `N` words from a pulse in idle. Until the `N`th
acceptance the engine is active and has written the first words of the burst, in order and with one payload; with the
`N`th it is idle, `pass_count` is one up and exactly the `N` words of the burst have been written. The host's inputs
and the bus's answers are arbitrary. -/
def Obligations.BurstTheorem : Prop :=
  ∀ s s₁ : State, s.cfg.Ok → s.WidthsOk → s.NoReset → s.currentState = .idle → s.pulsing = true → s.burstSize ≠ 0 →
    step s = .next s₁ →
    ∀ (n : Nat) (t : State), s₁.Reaches n t →
      (s₁.acceptCount n < s.burstSize →
        t.currentState = .active ∧ t.wordsWritten = s₁.acceptCount n ∧ t.passCount = s.passCount ∧
        wordsOf t.writeLog =
          wordsOf s.writeLog ++ burstWords s.cfg s.firstWord s.payload (s₁.acceptCount n)) ∧
      (s₁.acceptCount n + 1 = s.burstSize → t.accepting = true →
        ∃ u, step t = .next u ∧ u.currentState = .idle ∧ u.wordsWritten = 0 ∧
          u.passCount = (s.passCount + 1) % 2 ^ s.cfg.passW ∧
          wordsOf u.writeLog = wordsOf s.writeLog ++ burstWords s.cfg s.firstWord s.payload s.burstSize)

/-- 42_bus_interface.md R174, 60_exceptions.md R203: under `BUS_FAIR` and without reset, a running burst ends. The premise is
read as in log entry 18: the `ACTIVE` step itself may be the accepting one. -/
def Obligations.FairBusEndsBurst : Prop :=
  ∀ s : State, s.WidthsOk → s.CounterOk → s.NoReset → s.currentState = .active → s.BusFair →
    ∃ n t, s.Reaches n t ∧ t.currentState = .idle

/-- 70_reset_and_hazards.md R250, 41_engine_fsm.md R153, R156: with `sched` the answers before the terminal acceptance, a burst
of `N` words whose first offer is made now is active until then and idle right after, which is `N` steps and one for each
rejection, and has written its `N` words. `N` is the latched size, and `2^BURST_SIZE_W` for the latched size 0 of
`WRAP` (`State.burstLength`). -/
def Obligations.BurstStepCount : Prop :=
  ∀ (s : State) (sched rest : List Bool), s.WidthsOk → s.NoReset → s.currentState = .active → s.wordsWritten = 0 →
    s.busSched = sched ++ true :: rest → sched.count true + 1 = s.burstLength →
    (∀ k t, k ≤ sched.length → s.Reaches k t → t.currentState = .active) ∧
    (∃ t, s.Reaches (s.burstLength + sched.count false) t ∧ t.currentState = .idle ∧
      t.passCount = (s.passCount + 1) % 2 ^ s.cfg.passW ∧
      t.writeLog.length = s.writeLog.length + s.burstLength ∧
      wordsOf t.writeLog = wordsOf s.writeLog ++ burstWords s.cfg s.latchedWord s.payload s.burstLength)

/-- 42_bus_interface.md R180, 20_memory.md R61: under the assumption that every accepted write is visible by now, a reader of
the target sees the bytes that the model's memory holds, which are those of the last entry of `W` for each address. -/
def Obligations.VisibleTargetIsMemory : Prop :=
  ∀ (s : State) (vis : WriteEntry → Nat), s.TargetOk → (∀ e ∈ s.writeLog, vis e ≤ s.stepNo) →
    ∀ a, seenByte vis s.cfg s.writeLog s.stepNo a = s.mem.read a ∧ targetByte s.cfg s.writeLog a = s.mem.read a
end

