-- ==== Sys2Proof/Laws/Decode.lean ====
section
/-! SUPPORT. Laws/Decode.lean: the small lemmas of the decoder: what each function answers, case by case. -/

namespace Sys2Proof

theorem trunc_lt (n v : Nat) : trunc n v < 2 ^ n := Nat.mod_lt _ (Nat.two_pow_pos n)

theorem trunc_of_lt {n v : Nat} (h : v < 2 ^ n) : trunc n v = v := Nat.mod_eq_of_lt h

/-- Truncating to a width and then to a smaller one is truncating to the smaller one. -/
theorem trunc_trunc {n m : Nat} (h : n ≤ m) (v : Nat) : trunc n (trunc m v) = trunc n v :=
  Nat.mod_mod_of_dvd v (Nat.pow_dvd_pow 2 h)

theorem regAtOffset_offset (r : CsrReg) : regAtOffset r.offset = some r := by cases r <;> decide

theorem offset_of_regAtOffset {off : BitVec 8} {r : CsrReg} (h : regAtOffset off = some r) : off = r.offset := by
  unfold regAtOffset at h
  repeat' split at h
  all_goals first
    | (cases h; simp_all [CsrReg.offset])
    | cases h

/-- A key without `VALID` is a `NOP` that carries its low 16 bits (R81). -/
theorem decodeCsr_of_invalid {key : CsrKey} (h : key.valid = false) (p : Params) (wdata : Nat) :
    decodeCsr p key wdata = .ok (.nop (key.extractLsb' 0 16).toNat) := by
  simp [decodeCsr, h]

/-- What a decoded key with `VALID` holds: no reserved bit, a register's offset, and that register's operation. -/
theorem decodeValid_cases {key : CsrKey} {w : Nat} {i : Instr} (h : decodeValid key w = some i) :
    ∃ r, key.rsv = 0 ∧ key.offset = CsrReg.offset r ∧
      (if key.we then decodeWrite w r else decodeRead r) = some i := by
  unfold decodeValid at h
  split at h
  · cases h
  · next hr =>
    obtain ⟨r, h1, h2⟩ := Option.bind_eq_some_iff.1 h
    exact ⟨r, not_not.1 hr, offset_of_regAtOffset h1, h2⟩

/-- A key is its four fields (R81). -/
theorem CsrKey.ext_fields {a b : CsrKey} (hv : a.valid = b.valid) (hw : a.we = b.we) (hr : a.rsv = b.rsv)
    (ho : a.offset = b.offset) : a = b := by
  refine BitVec.eq_of_getLsbD_eq fun k hk => ?_
  rcases (by omega : k = 16 ∨ k = 15 ∨ (8 ≤ k ∧ k < 15) ∨ k < 8) with rfl | rfl | h | h
  · exact hv
  · exact hw
  · have := congrArg (fun x => BitVec.getLsbD x (k - 8)) hr
    simp only [CsrKey.rsv, BitVec.getLsbD_extractLsb'] at this
    simpa [show k - 8 < 7 by omega, show 8 + (k - 8) = k by omega] using this
  · have := congrArg (fun x => BitVec.getLsbD x k) ho
    simp only [CsrKey.offset, BitVec.getLsbD_extractLsb'] at this
    simpa [h] using this

/-- The one way a key is rejected: by its own name (R103). -/
theorem decodeCsr_error {p : Params} {key : CsrKey} {wdata : Nat} {r : RefuseReason}
    (h : decodeCsr p key wdata = .error r) :
    r = .badCsrKey key ∧ key.valid = true ∧ decodeValid key (trunc p.csrDataW wdata) = none := by
  unfold decodeCsr at h
  split at h
  · next hv =>
    split at h
    · cases h
    · next hn => cases h; exact ⟨rfl, hv, hn⟩
  · cases h

/-- The bits of an FSM key, read back (R83). -/
theorem rowOfBits_key (st trg acc last : Bool) :
    decodeFsm (fsmBit st 0b1000 ||| fsmBit trg 0b0100 ||| fsmBit acc 0b0010 ||| fsmBit last 0b0001)
      = rowOfBits st trg acc last := by
  cases st <;> cases trg <;> cases acc <;> cases last <;> decide

/-- A row that matches a key gives it every bit under the row's mask. -/
theorem OpcodeRow.bit_of_hits {w : Nat} {row : OpcodeRow w} {key : BitVec w} (h : row.hits key = true) {k : Nat}
    (hm : row.mask.getLsbD k = true) : key.getLsbD k = row.pattern.getLsbD k := by
  have : key &&& row.mask = row.pattern := by simpa [OpcodeRow.hits] using h
  rw [← this, BitVec.getLsbD_and, hm, Bool.and_true]

/-- A key without `VALID` matches the row of `NOP` and no other (R82). -/
theorem rows_of_invalid {key : CsrKey} (h : key.valid = false) (wdata : Nat) :
    (Frame.csr key wdata).rows = ["NOP"] := by
  have hnop : key &&& 0x10000#17 = 0#17 := by
    refine BitVec.eq_of_getLsbD_eq fun k hk => ?_
    by_cases hk' : k = 16
    · have : key.getLsbD 16 = false := h
      rw [hk', BitVec.getLsbD_and, this, Bool.false_and, BitVec.getLsbD_zero]
    · have : ∀ k < 17, k ≠ 16 → (0x10000#17).getLsbD k = false := by decide
      rw [BitVec.getLsbD_and, this k hk hk', Bool.and_false, BitVec.getLsbD_zero]
  have hmiss : ∀ row : OpcodeRow 17, row.mask.getLsbD 16 = true → row.pattern.getLsbD 16 = true →
      ¬(row.hits key = true) := fun row hm hp hh => by
    have h16 := OpcodeRow.bit_of_hits hh hm
    have : key.getLsbD 16 = false := h
    rw [hp, this] at h16
    cases h16
  have hfirst : (⟨"NOP", 0x00000, 0x10000⟩ : OpcodeRow 17).hits key = true := beq_iff_eq.2 hnop
  have hcons : csrRows = ⟨"NOP", 0x00000, 0x10000⟩ :: csrRows.tail := rfl
  have hrest : csrRows.tail.filter (fun row => row.hits key) = [] := List.filter_eq_nil_iff.2 ?_
  · rw [Frame.rows, hcons, List.filter_cons, if_pos hfirst, hrest]
    rfl
  · intro row hrow
    exact hmiss row
      ((by decide : ∀ row ∈ csrRows.tail, row.mask.getLsbD 16 = true) row hrow)
      ((by decide : ∀ row ∈ csrRows.tail, row.pattern.getLsbD 16 = true) row hrow)

/-- No two rows of the table match one FSM key (R84). -/
theorem fsmRows_disjoint :
    fsmRows.Pairwise fun a b => a.pattern &&& b.mask ≠ b.pattern &&& a.mask := by decide

end Sys2Proof
end

