-- ==== Sys2Proof/Laws/Memory.lean ====
section
/-! SUPPORT. Laws/Memory.lean: what a byte and a word written to the target's memory do to every byte of it, and that each
keeps the canonical form. -/

namespace Sys2Proof.Machine

theorem Memory.read_write (m : Memory) (a b : Nat) (v : Byte) :
    (m.write a v).read b = if b = a then some v else m.read b := by
  induction m with
  | nil => simp only [Memory.write, Memory.read, eq_comm (a := a)]
  | cons c rest ih =>
    obtain ⟨d, w⟩ := c
    simp only [Memory.write]
    split
    · simp only [Memory.read, eq_comm (a := a)]
    · split
      · subst a
        simp only [Memory.read, eq_comm (a := d)]
        split <;> rfl
      · simp only [Memory.read, ih]
        by_cases h : d = b
        · rw [if_pos h, if_neg (by omega), if_pos h]
        · simp only [if_neg h]

/-- The addresses of a memory after a write: the old ones and the one written. -/
theorem Memory.mem_write {m : Memory} {a : Nat} {v : Byte} {c : Host.Cell} (h : c ∈ m.write a v) :
    c = (a, v) ∨ c ∈ m := by
  induction m with
  | nil => simpa [Memory.write] using h
  | cons d rest ih =>
    simp only [Memory.write] at h
    split at h
    · simpa using h
    · split at h
      · rcases List.mem_cons.1 h with h | h
        · exact .inl h
        · exact .inr (List.mem_cons_of_mem _ h)
      · rcases List.mem_cons.1 h with h | h
        · exact .inr (h ▸ List.mem_cons_self)
        · exact (ih h).imp_right (List.mem_cons_of_mem _)

theorem Memory.write_wf {m : Memory} (hm : m.wf) (a : Nat) (v : Byte) : (m.write a v).wf := by
  induction m with
  | nil => simp [Memory.write, Memory.wf]
  | cons c rest ih =>
    obtain ⟨hc, hrest⟩ := List.pairwise_cons.1 hm
    simp only [Memory.write]
    split
    · next hlt =>
      refine List.pairwise_cons.2 ⟨fun d hd => ?_, hm⟩
      rcases List.mem_cons.1 hd with rfl | hd
      · exact hlt
      · exact hlt.trans (hc d hd)
    · split
      · next h => exact List.pairwise_cons.2 ⟨fun d hd => h ▸ hc d hd, hrest⟩
      · next h₁ h₂ =>
        refine List.pairwise_cons.2 ⟨fun d hd => ?_, ih hrest⟩
        rcases Memory.mem_write hd with rfl | hd
        · show c.1 < a
          omega
        · exact hc d hd

theorem Memory.writeBytes_wf {m : Memory} (hm : m.wf) (p : Params) (waddr data n : Nat) :
    (m.writeBytes p waddr data n).wf := by
  induction n with
  | zero => exact hm
  | succ n ih => exact Memory.write_wf ih _ _

theorem Memory.writeWord_wf {m : Memory} (hm : m.wf) (p : Params) (waddr data : Nat) :
    (m.writeWord p waddr data).wf :=
  Memory.writeBytes_wf hm p waddr data _

theorem Memory.read_writeBytes (p : Params) (m : Memory) (waddr data n a : Nat) :
    (m.writeBytes p waddr data n).read a =
      if byteAddr p waddr ≤ a ∧ a < byteAddr p waddr + n then some (wordByte p data (a - byteAddr p waddr))
      else m.read a := by
  induction n with
  | zero =>
    have : ¬(byteAddr p waddr ≤ a ∧ a < byteAddr p waddr + 0) := by omega
    rw [if_neg this, Memory.writeBytes]
  | succ n ih =>
    rw [Memory.writeBytes, Memory.read_write, ih]
    by_cases h : a = byteAddr p waddr + n
    · subst h
      simp
    · by_cases h' : byteAddr p waddr ≤ a ∧ a < byteAddr p waddr + n
      · rw [if_neg h, if_pos h', if_pos (by omega)]
      · rw [if_neg h, if_neg h', if_neg (by omega)]

/-- Every byte of memory after a word write: the word's bytes big-endian, all others as before. -/
theorem Memory.read_writeWord (p : Params) (m : Memory) (waddr data a : Nat) :
    (m.writeWord p waddr data).read a =
      if byteAddr p waddr ≤ a ∧ a < byteAddr p waddr + p.wordBytes then
        some (wordByte p data (a - byteAddr p waddr))
      else m.read a :=
  Memory.read_writeBytes p m waddr data _ a

theorem replay_append (p : Params) (log : List WriteEntry) (e : WriteEntry) :
    replay p (log ++ [e]) = (replay p log).writeWord p e.waddr e.data := by
  simp [replay]

theorem replay_wf (p : Params) (log : List WriteEntry) : (replay p log).wf := by
  induction log using List.reverseRecOn with
  | nil => exact List.Pairwise.nil
  | append_singleton log e ih => rw [replay_append]; exact Memory.writeWord_wf ih _ _ _

end Sys2Proof.Machine
end

