-- ==== Sys2Proof/Laws/Operands.lean ====
section
/-! SUPPORT. Laws/Operands.lean: what a read word and the terminal test answer, whatever the draws are. -/

namespace Sys2Proof.Machine

/-- The low bits of a read are the value (40_csr_access.md R101). -/
theorem readWord_low (p : Params) (bits value draw : Nat) :
    readWord p bits value draw % 2 ^ bits = trunc bits value := by
  rw [readWord, Nat.add_mul_mod_self_left]
  exact Nat.mod_eq_of_lt (trunc_lt bits value)

/-- A value as wide as the transfer leaves no bit to a draw. -/
theorem readWord_full (p : Params) (value draw : Nat) : readWord p p.csrDataW value draw = trunc p.csrDataW value := by
  simp [readWord, trunc, Nat.mod_one]

/-- A value of no bits leaves all of them to the draw (40_csr_access.md R111). -/
theorem readWord_none (p : Params) (value draw : Nat) : readWord p 0 value draw = trunc p.csrDataW draw := by
  simp [readWord, trunc, Nat.mod_one]

/-- A read is a word of `CSR_DATA_W` bits. -/
theorem readWord_lt {p : Params} {bits : Nat} (h : bits ≤ p.csrDataW) (value draw : Nat) :
    readWord p bits value draw < 2 ^ p.csrDataW := by
  have h₁ := trunc_lt bits value
  have h₂ := trunc_lt (p.csrDataW - bits) draw
  have h₃ : 2 ^ p.csrDataW = 2 ^ bits * 2 ^ (p.csrDataW - bits) := by
    rw [← Nat.pow_add, Nat.add_sub_cancel' h]
  have h₄ : 2 ^ bits * (trunc (p.csrDataW - bits) draw + 1) ≤ 2 ^ bits * 2 ^ (p.csrDataW - bits) :=
    Nat.mul_le_mul_left _ h₂
  rw [readWord, h₃]
  rw [Nat.mul_add] at h₄
  omega

/-- The terminal test for a latched size (41_engine_fsm.md R152). -/
theorem last_iff {s : State} (h₁ : 1 ≤ s.latSize) (h₂ : s.latSize < 2 ^ s.cfg.burstSizeW) :
    s.last = true ↔ s.wordsWritten = s.latSize - 1 := by
  rw [State.last, show s.latSize + 2 ^ s.cfg.burstSizeW - 1 = s.latSize - 1 + 2 ^ s.cfg.burstSizeW by omega,
    Nat.add_mod_right, Nat.mod_eq_of_lt (by omega), beq_iff_eq]

/-- The terminal test for the latched size 0 of `WRAP` (41_engine_fsm.md R153). -/
theorem last_iff_of_zero {s : State} (h : s.latSize = 0) :
    s.last = true ↔ s.wordsWritten = 2 ^ s.cfg.burstSizeW - 1 := by
  have := Nat.two_pow_pos s.cfg.burstSizeW
  rw [State.last, h, Nat.zero_add, Nat.mod_eq_of_lt (by omega), beq_iff_eq]

end Sys2Proof.Machine
end

