-- ==== Sys2Proof/Laws/PerInstr.lean ====
section
/-! SUPPORT. Laws/PerInstr.lean: statements made operation by operation, about the operation as syntax.

MatchesItsRow: the key that the encoder writes matches the row of the opcode table that bears the operation's
mnemonic, and no other row (30_encoding.md R82, R84). -/

namespace Sys2Proof.Laws.MatchesItsRow

/-- The rows of the opcode table that match the operation's encoding are its own and no other. -/
def Statement (i : Instr) : Prop := i.wellFormed Config.defaults = true → (encode i).rows = [i.mnemonic]

theorem nop (ignored : Nat) : Statement (.nop ignored) := fun _ => by
  refine rows_of_invalid ?_ 0
  show (BitVec.ofNat 17 (ignored % 2 ^ 16)).getLsbD 16 = false
  rw [BitVec.getLsbD_ofNat, Nat.testBit_lt_two_pow (Nat.mod_lt ignored (by decide)), Bool.and_false]

theorem csrwStartTrigger (wdata : Nat) : Statement (.csrwStartTrigger wdata) := fun _ => rfl

theorem csrrStartTrigger : Statement .csrrStartTrigger := fun _ => rfl

theorem csrwBurstSize (wdata : Nat) : Statement (.csrwBurstSize wdata) := fun _ => rfl

theorem csrrBurstSize : Statement .csrrBurstSize := fun _ => rfl

theorem csrwBaseAddress (wdata : Nat) : Statement (.csrwBaseAddress wdata) := fun _ => rfl

theorem csrrBaseAddress : Statement .csrrBaseAddress := fun _ => rfl

theorem csrwAddressOffset (wdata : Nat) : Statement (.csrwAddressOffset wdata) := fun _ => rfl

theorem csrrAddressOffset : Statement .csrrAddressOffset := fun _ => rfl

theorem csrrReady : Statement .csrrReady := fun _ => rfl

theorem csrrPassCount : Statement .csrrPassCount := fun _ => rfl

theorem idleHold (acc last : Bool) : Statement (.idleHold acc last) := fun _ => by
  cases acc <;> cases last <;> decide

theorem idleStart (acc last : Bool) : Statement (.idleStart acc last) := fun _ => by
  cases acc <;> cases last <;> decide

theorem activeAdvance (trg : Bool) : Statement (.activeAdvance trg) := fun _ => by cases trg <;> decide

theorem activeComplete (trg : Bool) : Statement (.activeComplete trg) := fun _ => by cases trg <;> decide

theorem activeStall (trg last : Bool) : Statement (.activeStall trg last) := fun _ => by
  cases trg <;> cases last <;> decide

end Sys2Proof.Laws.MatchesItsRow
end

