-- ==== Sys2Proof/Laws/State.lean ====
section
/-! SUPPORT. Laws/State.lean: what each named update of the state does to each field, one lemma for each, all by definition. -/

namespace Sys2Proof.Machine

variable (s : State)

@[simp] theorem State.setTrigPrev_cfg (b : Bool) : (s.setTrigPrev b).cfg = s.cfg := rfl
@[simp] theorem State.setTrigPrev_currentState (b : Bool) : (s.setTrigPrev b).currentState = s.currentState := rfl
@[simp] theorem State.setTrigPrev_wordsWritten (b : Bool) : (s.setTrigPrev b).wordsWritten = s.wordsWritten := rfl
@[simp] theorem State.setTrigPrev_passCount (b : Bool) : (s.setTrigPrev b).passCount = s.passCount := rfl
@[simp] theorem State.setTrigPrev_burstSize (b : Bool) : (s.setTrigPrev b).burstSize = s.burstSize := rfl
@[simp] theorem State.setTrigPrev_baseAddress (b : Bool) : (s.setTrigPrev b).baseAddress = s.baseAddress := rfl
@[simp] theorem State.setTrigPrev_addressOffset (b : Bool) : (s.setTrigPrev b).addressOffset = s.addressOffset := rfl
@[simp] theorem State.setTrigPrev_latSize (b : Bool) : (s.setTrigPrev b).latSize = s.latSize := rfl
@[simp] theorem State.setTrigPrev_latBase (b : Bool) : (s.setTrigPrev b).latBase = s.latBase := rfl
@[simp] theorem State.setTrigPrev_latOffset (b : Bool) : (s.setTrigPrev b).latOffset = s.latOffset := rfl
@[simp] theorem State.setTrigPrev_trigPrev (b : Bool) : (s.setTrigPrev b).trigPrev = b := rfl
@[simp] theorem State.setTrigPrev_writeLog (b : Bool) : (s.setTrigPrev b).writeLog = s.writeLog := rfl
@[simp] theorem State.setTrigPrev_refused (b : Bool) : (s.setTrigPrev b).refused = s.refused := rfl
@[simp] theorem State.setTrigPrev_mem (b : Bool) : (s.setTrigPrev b).mem = s.mem := rfl
@[simp] theorem State.setTrigPrev_stepNo (b : Bool) : (s.setTrigPrev b).stepNo = s.stepNo := rfl
@[simp] theorem State.setTrigPrev_hostProg (b : Bool) : (s.setTrigPrev b).hostProg = s.hostProg := rfl
@[simp] theorem State.setTrigPrev_busSched (b : Bool) : (s.setTrigPrev b).busSched = s.busSched := rfl
@[simp] theorem State.setTrigPrev_rstSched (b : Bool) : (s.setTrigPrev b).rstSched = s.rstSched := rfl
@[simp] theorem State.setTrigPrev_rdata (b : Bool) : (s.setTrigPrev b).rdata = s.rdata := rfl
@[simp] theorem State.setTrigPrev_offer (b : Bool) : (s.setTrigPrev b).offer = s.offer := rfl
@[simp] theorem State.setTrigPrev_raised (b : Bool) : (s.setTrigPrev b).raised = s.raised := rfl

@[simp] theorem State.setBurstSize_cfg (v : Nat) : (s.setBurstSize v).cfg = s.cfg := rfl
@[simp] theorem State.setBurstSize_currentState (v : Nat) : (s.setBurstSize v).currentState = s.currentState := rfl
@[simp] theorem State.setBurstSize_wordsWritten (v : Nat) : (s.setBurstSize v).wordsWritten = s.wordsWritten := rfl
@[simp] theorem State.setBurstSize_passCount (v : Nat) : (s.setBurstSize v).passCount = s.passCount := rfl
@[simp] theorem State.setBurstSize_burstSize (v : Nat) : (s.setBurstSize v).burstSize = v := rfl
@[simp] theorem State.setBurstSize_baseAddress (v : Nat) : (s.setBurstSize v).baseAddress = s.baseAddress := rfl
@[simp] theorem State.setBurstSize_addressOffset (v : Nat) : (s.setBurstSize v).addressOffset = s.addressOffset := rfl
@[simp] theorem State.setBurstSize_latSize (v : Nat) : (s.setBurstSize v).latSize = s.latSize := rfl
@[simp] theorem State.setBurstSize_latBase (v : Nat) : (s.setBurstSize v).latBase = s.latBase := rfl
@[simp] theorem State.setBurstSize_latOffset (v : Nat) : (s.setBurstSize v).latOffset = s.latOffset := rfl
@[simp] theorem State.setBurstSize_trigPrev (v : Nat) : (s.setBurstSize v).trigPrev = s.trigPrev := rfl
@[simp] theorem State.setBurstSize_writeLog (v : Nat) : (s.setBurstSize v).writeLog = s.writeLog := rfl
@[simp] theorem State.setBurstSize_refused (v : Nat) : (s.setBurstSize v).refused = s.refused := rfl
@[simp] theorem State.setBurstSize_mem (v : Nat) : (s.setBurstSize v).mem = s.mem := rfl
@[simp] theorem State.setBurstSize_stepNo (v : Nat) : (s.setBurstSize v).stepNo = s.stepNo := rfl
@[simp] theorem State.setBurstSize_hostProg (v : Nat) : (s.setBurstSize v).hostProg = s.hostProg := rfl
@[simp] theorem State.setBurstSize_busSched (v : Nat) : (s.setBurstSize v).busSched = s.busSched := rfl
@[simp] theorem State.setBurstSize_rstSched (v : Nat) : (s.setBurstSize v).rstSched = s.rstSched := rfl
@[simp] theorem State.setBurstSize_rdata (v : Nat) : (s.setBurstSize v).rdata = s.rdata := rfl
@[simp] theorem State.setBurstSize_offer (v : Nat) : (s.setBurstSize v).offer = s.offer := rfl
@[simp] theorem State.setBurstSize_raised (v : Nat) : (s.setBurstSize v).raised = s.raised := rfl

@[simp] theorem State.setBaseAddress_cfg (v : Nat) : (s.setBaseAddress v).cfg = s.cfg := rfl
@[simp] theorem State.setBaseAddress_currentState (v : Nat) : (s.setBaseAddress v).currentState = s.currentState := rfl
@[simp] theorem State.setBaseAddress_wordsWritten (v : Nat) : (s.setBaseAddress v).wordsWritten = s.wordsWritten := rfl
@[simp] theorem State.setBaseAddress_passCount (v : Nat) : (s.setBaseAddress v).passCount = s.passCount := rfl
@[simp] theorem State.setBaseAddress_burstSize (v : Nat) : (s.setBaseAddress v).burstSize = s.burstSize := rfl
@[simp] theorem State.setBaseAddress_baseAddress (v : Nat) : (s.setBaseAddress v).baseAddress = v := rfl
@[simp] theorem State.setBaseAddress_addressOffset (v : Nat) : (s.setBaseAddress v).addressOffset = s.addressOffset := rfl
@[simp] theorem State.setBaseAddress_latSize (v : Nat) : (s.setBaseAddress v).latSize = s.latSize := rfl
@[simp] theorem State.setBaseAddress_latBase (v : Nat) : (s.setBaseAddress v).latBase = s.latBase := rfl
@[simp] theorem State.setBaseAddress_latOffset (v : Nat) : (s.setBaseAddress v).latOffset = s.latOffset := rfl
@[simp] theorem State.setBaseAddress_trigPrev (v : Nat) : (s.setBaseAddress v).trigPrev = s.trigPrev := rfl
@[simp] theorem State.setBaseAddress_writeLog (v : Nat) : (s.setBaseAddress v).writeLog = s.writeLog := rfl
@[simp] theorem State.setBaseAddress_refused (v : Nat) : (s.setBaseAddress v).refused = s.refused := rfl
@[simp] theorem State.setBaseAddress_mem (v : Nat) : (s.setBaseAddress v).mem = s.mem := rfl
@[simp] theorem State.setBaseAddress_stepNo (v : Nat) : (s.setBaseAddress v).stepNo = s.stepNo := rfl
@[simp] theorem State.setBaseAddress_hostProg (v : Nat) : (s.setBaseAddress v).hostProg = s.hostProg := rfl
@[simp] theorem State.setBaseAddress_busSched (v : Nat) : (s.setBaseAddress v).busSched = s.busSched := rfl
@[simp] theorem State.setBaseAddress_rstSched (v : Nat) : (s.setBaseAddress v).rstSched = s.rstSched := rfl
@[simp] theorem State.setBaseAddress_rdata (v : Nat) : (s.setBaseAddress v).rdata = s.rdata := rfl
@[simp] theorem State.setBaseAddress_offer (v : Nat) : (s.setBaseAddress v).offer = s.offer := rfl
@[simp] theorem State.setBaseAddress_raised (v : Nat) : (s.setBaseAddress v).raised = s.raised := rfl

@[simp] theorem State.setAddressOffset_cfg (v : Nat) : (s.setAddressOffset v).cfg = s.cfg := rfl
@[simp] theorem State.setAddressOffset_currentState (v : Nat) : (s.setAddressOffset v).currentState = s.currentState := rfl
@[simp] theorem State.setAddressOffset_wordsWritten (v : Nat) : (s.setAddressOffset v).wordsWritten = s.wordsWritten := rfl
@[simp] theorem State.setAddressOffset_passCount (v : Nat) : (s.setAddressOffset v).passCount = s.passCount := rfl
@[simp] theorem State.setAddressOffset_burstSize (v : Nat) : (s.setAddressOffset v).burstSize = s.burstSize := rfl
@[simp] theorem State.setAddressOffset_baseAddress (v : Nat) : (s.setAddressOffset v).baseAddress = s.baseAddress := rfl
@[simp] theorem State.setAddressOffset_addressOffset (v : Nat) : (s.setAddressOffset v).addressOffset = v := rfl
@[simp] theorem State.setAddressOffset_latSize (v : Nat) : (s.setAddressOffset v).latSize = s.latSize := rfl
@[simp] theorem State.setAddressOffset_latBase (v : Nat) : (s.setAddressOffset v).latBase = s.latBase := rfl
@[simp] theorem State.setAddressOffset_latOffset (v : Nat) : (s.setAddressOffset v).latOffset = s.latOffset := rfl
@[simp] theorem State.setAddressOffset_trigPrev (v : Nat) : (s.setAddressOffset v).trigPrev = s.trigPrev := rfl
@[simp] theorem State.setAddressOffset_writeLog (v : Nat) : (s.setAddressOffset v).writeLog = s.writeLog := rfl
@[simp] theorem State.setAddressOffset_refused (v : Nat) : (s.setAddressOffset v).refused = s.refused := rfl
@[simp] theorem State.setAddressOffset_mem (v : Nat) : (s.setAddressOffset v).mem = s.mem := rfl
@[simp] theorem State.setAddressOffset_stepNo (v : Nat) : (s.setAddressOffset v).stepNo = s.stepNo := rfl
@[simp] theorem State.setAddressOffset_hostProg (v : Nat) : (s.setAddressOffset v).hostProg = s.hostProg := rfl
@[simp] theorem State.setAddressOffset_busSched (v : Nat) : (s.setAddressOffset v).busSched = s.busSched := rfl
@[simp] theorem State.setAddressOffset_rstSched (v : Nat) : (s.setAddressOffset v).rstSched = s.rstSched := rfl
@[simp] theorem State.setAddressOffset_rdata (v : Nat) : (s.setAddressOffset v).rdata = s.rdata := rfl
@[simp] theorem State.setAddressOffset_offer (v : Nat) : (s.setAddressOffset v).offer = s.offer := rfl
@[simp] theorem State.setAddressOffset_raised (v : Nat) : (s.setAddressOffset v).raised = s.raised := rfl

@[simp] theorem State.setRdata_cfg (v : Nat) : (s.setRdata v).cfg = s.cfg := rfl
@[simp] theorem State.setRdata_currentState (v : Nat) : (s.setRdata v).currentState = s.currentState := rfl
@[simp] theorem State.setRdata_wordsWritten (v : Nat) : (s.setRdata v).wordsWritten = s.wordsWritten := rfl
@[simp] theorem State.setRdata_passCount (v : Nat) : (s.setRdata v).passCount = s.passCount := rfl
@[simp] theorem State.setRdata_burstSize (v : Nat) : (s.setRdata v).burstSize = s.burstSize := rfl
@[simp] theorem State.setRdata_baseAddress (v : Nat) : (s.setRdata v).baseAddress = s.baseAddress := rfl
@[simp] theorem State.setRdata_addressOffset (v : Nat) : (s.setRdata v).addressOffset = s.addressOffset := rfl
@[simp] theorem State.setRdata_latSize (v : Nat) : (s.setRdata v).latSize = s.latSize := rfl
@[simp] theorem State.setRdata_latBase (v : Nat) : (s.setRdata v).latBase = s.latBase := rfl
@[simp] theorem State.setRdata_latOffset (v : Nat) : (s.setRdata v).latOffset = s.latOffset := rfl
@[simp] theorem State.setRdata_trigPrev (v : Nat) : (s.setRdata v).trigPrev = s.trigPrev := rfl
@[simp] theorem State.setRdata_writeLog (v : Nat) : (s.setRdata v).writeLog = s.writeLog := rfl
@[simp] theorem State.setRdata_refused (v : Nat) : (s.setRdata v).refused = s.refused := rfl
@[simp] theorem State.setRdata_mem (v : Nat) : (s.setRdata v).mem = s.mem := rfl
@[simp] theorem State.setRdata_stepNo (v : Nat) : (s.setRdata v).stepNo = s.stepNo := rfl
@[simp] theorem State.setRdata_hostProg (v : Nat) : (s.setRdata v).hostProg = s.hostProg := rfl
@[simp] theorem State.setRdata_busSched (v : Nat) : (s.setRdata v).busSched = s.busSched := rfl
@[simp] theorem State.setRdata_rstSched (v : Nat) : (s.setRdata v).rstSched = s.rstSched := rfl
@[simp] theorem State.setRdata_rdata (v : Nat) : (s.setRdata v).rdata = some v := rfl
@[simp] theorem State.setRdata_offer (v : Nat) : (s.setRdata v).offer = s.offer := rfl
@[simp] theorem State.setRdata_raised (v : Nat) : (s.setRdata v).raised = s.raised := rfl

@[simp] theorem State.enterIdle_cfg : (s.enterIdle).cfg = s.cfg := rfl
@[simp] theorem State.enterIdle_currentState : (s.enterIdle).currentState = .idle := rfl
@[simp] theorem State.enterIdle_wordsWritten : (s.enterIdle).wordsWritten = 0 := rfl
@[simp] theorem State.enterIdle_passCount : (s.enterIdle).passCount = s.passCount := rfl
@[simp] theorem State.enterIdle_burstSize : (s.enterIdle).burstSize = s.burstSize := rfl
@[simp] theorem State.enterIdle_baseAddress : (s.enterIdle).baseAddress = s.baseAddress := rfl
@[simp] theorem State.enterIdle_addressOffset : (s.enterIdle).addressOffset = s.addressOffset := rfl
@[simp] theorem State.enterIdle_latSize : (s.enterIdle).latSize = s.latSize := rfl
@[simp] theorem State.enterIdle_latBase : (s.enterIdle).latBase = s.latBase := rfl
@[simp] theorem State.enterIdle_latOffset : (s.enterIdle).latOffset = s.latOffset := rfl
@[simp] theorem State.enterIdle_trigPrev : (s.enterIdle).trigPrev = s.trigPrev := rfl
@[simp] theorem State.enterIdle_writeLog : (s.enterIdle).writeLog = s.writeLog := rfl
@[simp] theorem State.enterIdle_refused : (s.enterIdle).refused = s.refused := rfl
@[simp] theorem State.enterIdle_mem : (s.enterIdle).mem = s.mem := rfl
@[simp] theorem State.enterIdle_stepNo : (s.enterIdle).stepNo = s.stepNo := rfl
@[simp] theorem State.enterIdle_hostProg : (s.enterIdle).hostProg = s.hostProg := rfl
@[simp] theorem State.enterIdle_busSched : (s.enterIdle).busSched = s.busSched := rfl
@[simp] theorem State.enterIdle_rstSched : (s.enterIdle).rstSched = s.rstSched := rfl
@[simp] theorem State.enterIdle_rdata : (s.enterIdle).rdata = s.rdata := rfl
@[simp] theorem State.enterIdle_offer : (s.enterIdle).offer = s.offer := rfl
@[simp] theorem State.enterIdle_raised : (s.enterIdle).raised = s.raised := rfl

@[simp] theorem State.latchBurst_cfg (n : Nat) : (s.latchBurst n).cfg = s.cfg := rfl
@[simp] theorem State.latchBurst_currentState (n : Nat) : (s.latchBurst n).currentState = .active := rfl
@[simp] theorem State.latchBurst_wordsWritten (n : Nat) : (s.latchBurst n).wordsWritten = 0 := rfl
@[simp] theorem State.latchBurst_passCount (n : Nat) : (s.latchBurst n).passCount = s.passCount := rfl
@[simp] theorem State.latchBurst_burstSize (n : Nat) : (s.latchBurst n).burstSize = s.burstSize := rfl
@[simp] theorem State.latchBurst_baseAddress (n : Nat) : (s.latchBurst n).baseAddress = s.baseAddress := rfl
@[simp] theorem State.latchBurst_addressOffset (n : Nat) : (s.latchBurst n).addressOffset = s.addressOffset := rfl
@[simp] theorem State.latchBurst_latSize (n : Nat) : (s.latchBurst n).latSize = n := rfl
@[simp] theorem State.latchBurst_latBase (n : Nat) : (s.latchBurst n).latBase = s.baseAddress := rfl
@[simp] theorem State.latchBurst_latOffset (n : Nat) : (s.latchBurst n).latOffset = s.addressOffset := rfl
@[simp] theorem State.latchBurst_trigPrev (n : Nat) : (s.latchBurst n).trigPrev = s.trigPrev := rfl
@[simp] theorem State.latchBurst_writeLog (n : Nat) : (s.latchBurst n).writeLog = s.writeLog := rfl
@[simp] theorem State.latchBurst_refused (n : Nat) : (s.latchBurst n).refused = s.refused := rfl
@[simp] theorem State.latchBurst_mem (n : Nat) : (s.latchBurst n).mem = s.mem := rfl
@[simp] theorem State.latchBurst_stepNo (n : Nat) : (s.latchBurst n).stepNo = s.stepNo := rfl
@[simp] theorem State.latchBurst_hostProg (n : Nat) : (s.latchBurst n).hostProg = s.hostProg := rfl
@[simp] theorem State.latchBurst_busSched (n : Nat) : (s.latchBurst n).busSched = s.busSched := rfl
@[simp] theorem State.latchBurst_rstSched (n : Nat) : (s.latchBurst n).rstSched = s.rstSched := rfl
@[simp] theorem State.latchBurst_rdata (n : Nat) : (s.latchBurst n).rdata = s.rdata := rfl
@[simp] theorem State.latchBurst_offer (n : Nat) : (s.latchBurst n).offer = s.offer := rfl
@[simp] theorem State.latchBurst_raised (n : Nat) : (s.latchBurst n).raised = s.raised := rfl

@[simp] theorem State.bumpPass_cfg : (s.bumpPass).cfg = s.cfg := rfl
@[simp] theorem State.bumpPass_currentState : (s.bumpPass).currentState = s.currentState := rfl
@[simp] theorem State.bumpPass_wordsWritten : (s.bumpPass).wordsWritten = s.wordsWritten := rfl
@[simp] theorem State.bumpPass_passCount : (s.bumpPass).passCount = (s.passCount + 1) % 2 ^ s.cfg.passW := rfl
@[simp] theorem State.bumpPass_burstSize : (s.bumpPass).burstSize = s.burstSize := rfl
@[simp] theorem State.bumpPass_baseAddress : (s.bumpPass).baseAddress = s.baseAddress := rfl
@[simp] theorem State.bumpPass_addressOffset : (s.bumpPass).addressOffset = s.addressOffset := rfl
@[simp] theorem State.bumpPass_latSize : (s.bumpPass).latSize = s.latSize := rfl
@[simp] theorem State.bumpPass_latBase : (s.bumpPass).latBase = s.latBase := rfl
@[simp] theorem State.bumpPass_latOffset : (s.bumpPass).latOffset = s.latOffset := rfl
@[simp] theorem State.bumpPass_trigPrev : (s.bumpPass).trigPrev = s.trigPrev := rfl
@[simp] theorem State.bumpPass_writeLog : (s.bumpPass).writeLog = s.writeLog := rfl
@[simp] theorem State.bumpPass_refused : (s.bumpPass).refused = s.refused := rfl
@[simp] theorem State.bumpPass_mem : (s.bumpPass).mem = s.mem := rfl
@[simp] theorem State.bumpPass_stepNo : (s.bumpPass).stepNo = s.stepNo := rfl
@[simp] theorem State.bumpPass_hostProg : (s.bumpPass).hostProg = s.hostProg := rfl
@[simp] theorem State.bumpPass_busSched : (s.bumpPass).busSched = s.busSched := rfl
@[simp] theorem State.bumpPass_rstSched : (s.bumpPass).rstSched = s.rstSched := rfl
@[simp] theorem State.bumpPass_rdata : (s.bumpPass).rdata = s.rdata := rfl
@[simp] theorem State.bumpPass_offer : (s.bumpPass).offer = s.offer := rfl
@[simp] theorem State.bumpPass_raised : (s.bumpPass).raised = s.raised := rfl

@[simp] theorem State.countWord_cfg : (s.countWord).cfg = s.cfg := rfl
@[simp] theorem State.countWord_currentState : (s.countWord).currentState = s.currentState := rfl
@[simp] theorem State.countWord_wordsWritten : (s.countWord).wordsWritten = s.wordsWritten + 1 := rfl
@[simp] theorem State.countWord_passCount : (s.countWord).passCount = s.passCount := rfl
@[simp] theorem State.countWord_burstSize : (s.countWord).burstSize = s.burstSize := rfl
@[simp] theorem State.countWord_baseAddress : (s.countWord).baseAddress = s.baseAddress := rfl
@[simp] theorem State.countWord_addressOffset : (s.countWord).addressOffset = s.addressOffset := rfl
@[simp] theorem State.countWord_latSize : (s.countWord).latSize = s.latSize := rfl
@[simp] theorem State.countWord_latBase : (s.countWord).latBase = s.latBase := rfl
@[simp] theorem State.countWord_latOffset : (s.countWord).latOffset = s.latOffset := rfl
@[simp] theorem State.countWord_trigPrev : (s.countWord).trigPrev = s.trigPrev := rfl
@[simp] theorem State.countWord_writeLog : (s.countWord).writeLog = s.writeLog := rfl
@[simp] theorem State.countWord_refused : (s.countWord).refused = s.refused := rfl
@[simp] theorem State.countWord_mem : (s.countWord).mem = s.mem := rfl
@[simp] theorem State.countWord_stepNo : (s.countWord).stepNo = s.stepNo := rfl
@[simp] theorem State.countWord_hostProg : (s.countWord).hostProg = s.hostProg := rfl
@[simp] theorem State.countWord_busSched : (s.countWord).busSched = s.busSched := rfl
@[simp] theorem State.countWord_rstSched : (s.countWord).rstSched = s.rstSched := rfl
@[simp] theorem State.countWord_rdata : (s.countWord).rdata = s.rdata := rfl
@[simp] theorem State.countWord_offer : (s.countWord).offer = s.offer := rfl
@[simp] theorem State.countWord_raised : (s.countWord).raised = s.raised := rfl

@[simp] theorem State.acceptWrite_cfg : (s.acceptWrite).cfg = s.cfg := rfl
@[simp] theorem State.acceptWrite_currentState : (s.acceptWrite).currentState = s.currentState := rfl
@[simp] theorem State.acceptWrite_wordsWritten : (s.acceptWrite).wordsWritten = s.wordsWritten := rfl
@[simp] theorem State.acceptWrite_passCount : (s.acceptWrite).passCount = s.passCount := rfl
@[simp] theorem State.acceptWrite_burstSize : (s.acceptWrite).burstSize = s.burstSize := rfl
@[simp] theorem State.acceptWrite_baseAddress : (s.acceptWrite).baseAddress = s.baseAddress := rfl
@[simp] theorem State.acceptWrite_addressOffset : (s.acceptWrite).addressOffset = s.addressOffset := rfl
@[simp] theorem State.acceptWrite_latSize : (s.acceptWrite).latSize = s.latSize := rfl
@[simp] theorem State.acceptWrite_latBase : (s.acceptWrite).latBase = s.latBase := rfl
@[simp] theorem State.acceptWrite_latOffset : (s.acceptWrite).latOffset = s.latOffset := rfl
@[simp] theorem State.acceptWrite_trigPrev : (s.acceptWrite).trigPrev = s.trigPrev := rfl
@[simp] theorem State.acceptWrite_writeLog : (s.acceptWrite).writeLog = s.writeLog ++ [⟨s.stepNo, s.wordAddr, s.payload⟩] := rfl
@[simp] theorem State.acceptWrite_refused : (s.acceptWrite).refused = s.refused := rfl
@[simp] theorem State.acceptWrite_mem : (s.acceptWrite).mem = s.mem.writeWord s.cfg s.wordAddr s.payload := rfl
@[simp] theorem State.acceptWrite_stepNo : (s.acceptWrite).stepNo = s.stepNo := rfl
@[simp] theorem State.acceptWrite_hostProg : (s.acceptWrite).hostProg = s.hostProg := rfl
@[simp] theorem State.acceptWrite_busSched : (s.acceptWrite).busSched = s.busSched := rfl
@[simp] theorem State.acceptWrite_rstSched : (s.acceptWrite).rstSched = s.rstSched := rfl
@[simp] theorem State.acceptWrite_rdata : (s.acceptWrite).rdata = s.rdata := rfl
@[simp] theorem State.acceptWrite_offer : (s.acceptWrite).offer = s.offer := rfl
@[simp] theorem State.acceptWrite_raised : (s.acceptWrite).raised = s.raised := rfl

@[simp] theorem State.refuse_cfg (r : RefuseReason) : (s.refuse r).cfg = s.cfg := rfl
@[simp] theorem State.refuse_currentState (r : RefuseReason) : (s.refuse r).currentState = s.currentState := rfl
@[simp] theorem State.refuse_wordsWritten (r : RefuseReason) : (s.refuse r).wordsWritten = s.wordsWritten := rfl
@[simp] theorem State.refuse_passCount (r : RefuseReason) : (s.refuse r).passCount = s.passCount := rfl
@[simp] theorem State.refuse_burstSize (r : RefuseReason) : (s.refuse r).burstSize = s.burstSize := rfl
@[simp] theorem State.refuse_baseAddress (r : RefuseReason) : (s.refuse r).baseAddress = s.baseAddress := rfl
@[simp] theorem State.refuse_addressOffset (r : RefuseReason) : (s.refuse r).addressOffset = s.addressOffset := rfl
@[simp] theorem State.refuse_latSize (r : RefuseReason) : (s.refuse r).latSize = s.latSize := rfl
@[simp] theorem State.refuse_latBase (r : RefuseReason) : (s.refuse r).latBase = s.latBase := rfl
@[simp] theorem State.refuse_latOffset (r : RefuseReason) : (s.refuse r).latOffset = s.latOffset := rfl
@[simp] theorem State.refuse_trigPrev (r : RefuseReason) : (s.refuse r).trigPrev = s.trigPrev := rfl
@[simp] theorem State.refuse_writeLog (r : RefuseReason) : (s.refuse r).writeLog = s.writeLog := rfl
@[simp] theorem State.refuse_refused (r : RefuseReason) : (s.refuse r).refused = true := rfl
@[simp] theorem State.refuse_mem (r : RefuseReason) : (s.refuse r).mem = s.mem := rfl
@[simp] theorem State.refuse_stepNo (r : RefuseReason) : (s.refuse r).stepNo = s.stepNo := rfl
@[simp] theorem State.refuse_hostProg (r : RefuseReason) : (s.refuse r).hostProg = s.hostProg := rfl
@[simp] theorem State.refuse_busSched (r : RefuseReason) : (s.refuse r).busSched = s.busSched := rfl
@[simp] theorem State.refuse_rstSched (r : RefuseReason) : (s.refuse r).rstSched = s.rstSched := rfl
@[simp] theorem State.refuse_rdata (r : RefuseReason) : (s.refuse r).rdata = s.rdata := rfl
@[simp] theorem State.refuse_offer (r : RefuseReason) : (s.refuse r).offer = s.offer := rfl
@[simp] theorem State.refuse_raised (r : RefuseReason) : (s.refuse r).raised = s.raised ++ [r] := rfl

@[simp] theorem State.present_cfg : (s.present).cfg = s.cfg := rfl
@[simp] theorem State.present_currentState : (s.present).currentState = s.currentState := rfl
@[simp] theorem State.present_wordsWritten : (s.present).wordsWritten = s.wordsWritten := rfl
@[simp] theorem State.present_passCount : (s.present).passCount = s.passCount := rfl
@[simp] theorem State.present_burstSize : (s.present).burstSize = s.burstSize := rfl
@[simp] theorem State.present_baseAddress : (s.present).baseAddress = s.baseAddress := rfl
@[simp] theorem State.present_addressOffset : (s.present).addressOffset = s.addressOffset := rfl
@[simp] theorem State.present_latSize : (s.present).latSize = s.latSize := rfl
@[simp] theorem State.present_latBase : (s.present).latBase = s.latBase := rfl
@[simp] theorem State.present_latOffset : (s.present).latOffset = s.latOffset := rfl
@[simp] theorem State.present_trigPrev : (s.present).trigPrev = s.trigPrev := rfl
@[simp] theorem State.present_writeLog : (s.present).writeLog = s.writeLog := rfl
@[simp] theorem State.present_refused : (s.present).refused = s.refused := rfl
@[simp] theorem State.present_mem : (s.present).mem = s.mem := rfl
@[simp] theorem State.present_stepNo : (s.present).stepNo = s.stepNo := rfl
@[simp] theorem State.present_hostProg : (s.present).hostProg = s.hostProg := rfl
@[simp] theorem State.present_busSched : (s.present).busSched = s.busSched := rfl
@[simp] theorem State.present_rstSched : (s.present).rstSched = s.rstSched := rfl
@[simp] theorem State.present_rdata : (s.present).rdata = none := rfl
@[simp] theorem State.present_offer : (s.present).offer = if s.wrValid then some ⟨s.wordAddr, s.payload⟩ else none := rfl
@[simp] theorem State.present_raised : (s.present).raised = [] := rfl

@[simp] theorem State.resetEvent_cfg : (s.resetEvent).cfg = s.cfg := rfl
@[simp] theorem State.resetEvent_currentState : (s.resetEvent).currentState = .idle := rfl
@[simp] theorem State.resetEvent_wordsWritten : (s.resetEvent).wordsWritten = 0 := rfl
@[simp] theorem State.resetEvent_passCount : (s.resetEvent).passCount = 0 := rfl
@[simp] theorem State.resetEvent_burstSize : (s.resetEvent).burstSize = 0 := rfl
@[simp] theorem State.resetEvent_baseAddress : (s.resetEvent).baseAddress = 0 := rfl
@[simp] theorem State.resetEvent_addressOffset : (s.resetEvent).addressOffset = 0 := rfl
@[simp] theorem State.resetEvent_latSize : (s.resetEvent).latSize = 0 := rfl
@[simp] theorem State.resetEvent_latBase : (s.resetEvent).latBase = 0 := rfl
@[simp] theorem State.resetEvent_latOffset : (s.resetEvent).latOffset = 0 := rfl
@[simp] theorem State.resetEvent_trigPrev : (s.resetEvent).trigPrev = false := rfl
@[simp] theorem State.resetEvent_writeLog : (s.resetEvent).writeLog = s.writeLog := rfl
@[simp] theorem State.resetEvent_refused : (s.resetEvent).refused = s.refused := rfl
@[simp] theorem State.resetEvent_mem : (s.resetEvent).mem = s.mem := rfl
@[simp] theorem State.resetEvent_stepNo : (s.resetEvent).stepNo = s.stepNo := rfl
@[simp] theorem State.resetEvent_hostProg : (s.resetEvent).hostProg = s.hostProg := rfl
@[simp] theorem State.resetEvent_busSched : (s.resetEvent).busSched = s.busSched := rfl
@[simp] theorem State.resetEvent_rstSched : (s.resetEvent).rstSched = s.rstSched := rfl
@[simp] theorem State.resetEvent_rdata : (s.resetEvent).rdata = none := rfl
@[simp] theorem State.resetEvent_offer : (s.resetEvent).offer = none := rfl
@[simp] theorem State.resetEvent_raised : (s.resetEvent).raised = [] := rfl

@[simp] theorem State.advanceFrom_cfg (t : State) : (s.advanceFrom t).cfg = s.cfg := rfl
@[simp] theorem State.advanceFrom_currentState (t : State) : (s.advanceFrom t).currentState = s.currentState := rfl
@[simp] theorem State.advanceFrom_wordsWritten (t : State) : (s.advanceFrom t).wordsWritten = s.wordsWritten := rfl
@[simp] theorem State.advanceFrom_passCount (t : State) : (s.advanceFrom t).passCount = s.passCount := rfl
@[simp] theorem State.advanceFrom_burstSize (t : State) : (s.advanceFrom t).burstSize = s.burstSize := rfl
@[simp] theorem State.advanceFrom_baseAddress (t : State) : (s.advanceFrom t).baseAddress = s.baseAddress := rfl
@[simp] theorem State.advanceFrom_addressOffset (t : State) : (s.advanceFrom t).addressOffset = s.addressOffset := rfl
@[simp] theorem State.advanceFrom_latSize (t : State) : (s.advanceFrom t).latSize = s.latSize := rfl
@[simp] theorem State.advanceFrom_latBase (t : State) : (s.advanceFrom t).latBase = s.latBase := rfl
@[simp] theorem State.advanceFrom_latOffset (t : State) : (s.advanceFrom t).latOffset = s.latOffset := rfl
@[simp] theorem State.advanceFrom_trigPrev (t : State) : (s.advanceFrom t).trigPrev = s.trigPrev := rfl
@[simp] theorem State.advanceFrom_writeLog (t : State) : (s.advanceFrom t).writeLog = s.writeLog := rfl
@[simp] theorem State.advanceFrom_refused (t : State) : (s.advanceFrom t).refused = s.refused := rfl
@[simp] theorem State.advanceFrom_mem (t : State) : (s.advanceFrom t).mem = s.mem := rfl
@[simp] theorem State.advanceFrom_stepNo (t : State) : (s.advanceFrom t).stepNo = t.stepNo + 1 := rfl
@[simp] theorem State.advanceFrom_hostProg (t : State) : (s.advanceFrom t).hostProg = t.hostRest := rfl
@[simp] theorem State.advanceFrom_busSched (t : State) : (s.advanceFrom t).busSched = t.busSched.tail := rfl
@[simp] theorem State.advanceFrom_rstSched (t : State) : (s.advanceFrom t).rstSched = t.rstSched.tail := rfl
@[simp] theorem State.advanceFrom_rdata (t : State) : (s.advanceFrom t).rdata = s.rdata := rfl
@[simp] theorem State.advanceFrom_offer (t : State) : (s.advanceFrom t).offer = s.offer := rfl
@[simp] theorem State.advanceFrom_raised (t : State) : (s.advanceFrom t).raised = s.raised := rfl

end Sys2Proof.Machine
end

