-- ==== Sys2Proof/Laws/Step.lean ====
section
/-! SUPPORT. Laws/Step.lean: everything a step can do, said once.

`exec_host` gives the host's half of a step as one update of the state, `StepCase` lists the six cases of a whole
step, and `step_eq_next_iff` says that a step is one of them and nothing else. -/

namespace Sys2Proof.Machine

/-- The operation is one of the host's (40_csr_access.md). -/
def hostSide : Instr → Bool
  | .idleHold _ _ | .idleStart _ _ | .activeAdvance _ | .activeComplete _ | .activeStall _ _ => false
  | _ => true

/-- The host's half of a step as one update: at most one configuration register, `RDATA`, and `trig_prev`. -/
def State.afterHost (s : State) (i : Instr) : State :=
  { s with
    burstSize := match i with
      | .csrwBurstSize wdata => writeValue s.cfg .burstSize wdata
      | _ => s.burstSize
    baseAddress := match i with
      | .csrwBaseAddress wdata => writeValue s.cfg .baseAddress wdata
      | _ => s.baseAddress
    addressOffset := match i with
      | .csrwAddressOffset wdata => writeValue s.cfg .addressOffset wdata
      | _ => s.addressOffset
    rdata := match i with
      | .csrrStartTrigger => some (s.csrRead .startTrigger)
      | .csrrBurstSize => some (s.csrRead .burstSize)
      | .csrrBaseAddress => some (s.csrRead .baseAddress)
      | .csrrAddressOffset => some (s.csrRead .addressOffset)
      | .csrrReady => some (s.csrRead .ready)
      | .csrrPassCount => some (s.csrRead .passCount)
      | _ => s.rdata
    trigPrev := triggerLevel i }

theorem exec_host {i : Instr} (h : hostSide i = true) (s : State) : exec i s = .next (s.afterHost i) := by
  cases i <;> first | rfl | cases h

theorem hostSide_decodeWrite {wdata : Nat} {r : CsrReg} {i : Instr} (h : decodeWrite wdata r = some i) :
    hostSide i = true := by
  cases r <;> cases h <;> rfl

theorem hostSide_decodeRead {r : CsrReg} {i : Instr} (h : decodeRead r = some i) : hostSide i = true := by
  cases r <;> cases h <;> rfl

/-- A transaction decodes to an operation of the host, never to a transition. -/
theorem hostSide_of_decodeCsr {p : Params} {key : CsrKey} {wdata : Nat} {i : Instr}
    (h : decodeCsr p key wdata = .ok i) : hostSide i = true := by
  unfold decodeCsr at h
  split at h
  · split at h
    · next hv =>
      cases h
      unfold decodeValid at hv
      split at hv
      · cases hv
      · obtain ⟨r, -, hr⟩ := Option.bind_eq_some_iff.1 hv
        split at hr
        · exact hostSide_decodeWrite hr
        · exact hostSide_decodeRead hr
    · cases h
  · cases h
    rfl

theorem hostSide_hostInstr (p : Params) (op : HostOp) : hostSide (hostInstr p op) = true := by
  unfold hostInstr
  split
  · next h => exact hostSide_of_decodeCsr h
  · rfl

/-- Every operation has a meaning, and it answers a next state (41_engine_fsm.md R144, 60_exceptions.md R200). -/
theorem exec_answers (i : Instr) (s : State) : ∃ t, exec i s = .next t := by
  cases i <;> exact ⟨_, rfl⟩

/-- The state between the two halves of a step: the outputs presented, a refused key marked, the host's half run. -/
def State.mid (s : State) : State := (s.present.markBadKey s.nextOp).afterHost (hostInstr s.cfg s.nextOp)

@[simp] theorem State.mid_cfg (s : State) : s.mid.cfg = s.cfg := by
  unfold State.mid State.markBadKey
  split <;> rfl

@[simp] theorem State.mid_currentState (s : State) : s.mid.currentState = s.currentState := by
  unfold State.mid State.markBadKey
  split <;> rfl

@[simp] theorem State.mid_wordsWritten (s : State) : s.mid.wordsWritten = s.wordsWritten := by
  unfold State.mid State.markBadKey
  split <;> rfl

@[simp] theorem State.mid_passCount (s : State) : s.mid.passCount = s.passCount := by
  unfold State.mid State.markBadKey
  split <;> rfl

@[simp] theorem State.mid_latSize (s : State) : s.mid.latSize = s.latSize := by
  unfold State.mid State.markBadKey
  split <;> rfl

@[simp] theorem State.mid_latBase (s : State) : s.mid.latBase = s.latBase := by
  unfold State.mid State.markBadKey
  split <;> rfl

@[simp] theorem State.mid_latOffset (s : State) : s.mid.latOffset = s.latOffset := by
  unfold State.mid State.markBadKey
  split <;> rfl

@[simp] theorem State.mid_writeLog (s : State) : s.mid.writeLog = s.writeLog := by
  unfold State.mid State.markBadKey
  split <;> rfl

@[simp] theorem State.mid_mem (s : State) : s.mid.mem = s.mem := by
  unfold State.mid State.markBadKey
  split <;> rfl

@[simp] theorem State.mid_stepNo (s : State) : s.mid.stepNo = s.stepNo := by
  unfold State.mid State.markBadKey
  split <;> rfl

@[simp] theorem State.mid_hostProg (s : State) : s.mid.hostProg = s.hostProg := by
  unfold State.mid State.markBadKey
  split <;> rfl

@[simp] theorem State.mid_busSched (s : State) : s.mid.busSched = s.busSched := by
  unfold State.mid State.markBadKey
  split <;> rfl

@[simp] theorem State.mid_rstSched (s : State) : s.mid.rstSched = s.rstSched := by
  unfold State.mid State.markBadKey
  split <;> rfl

@[simp] theorem State.mid_trigPrev (s : State) :
    s.mid.trigPrev = triggerLevel (hostInstr s.cfg s.nextOp) := rfl

@[simp] theorem State.mid_offer (s : State) :
    s.mid.offer = if s.wrValid then some ⟨s.wordAddr, s.payload⟩ else none := by
  unfold State.mid State.markBadKey
  split <;> rfl

@[simp] theorem State.mid_wordAddr (s : State) : s.mid.wordAddr = s.wordAddr := by
  simp only [State.wordAddr, State.mid_cfg, State.mid_latBase, State.mid_latOffset, State.mid_wordsWritten]

@[simp] theorem State.mid_payload (s : State) : s.mid.payload = s.payload := by
  simp only [State.payload, State.mid_cfg, State.mid_passCount]

/-- A step that carries a trigger request writes no configuration register (40_csr_access.md R100). -/
theorem State.mid_config_of_level {s : State} (h : triggerLevel (hostInstr s.cfg s.nextOp) = true) :
    s.mid.burstSize = s.burstSize ∧ s.mid.baseAddress = s.baseAddress ∧ s.mid.addressOffset = s.addressOffset := by
  unfold State.mid State.markBadKey State.afterHost
  cases hi : hostInstr s.cfg s.nextOp <;> rw [hi] at h <;> try cases h
  split <;> exact ⟨rfl, rfl, rfl⟩

/-- A pulse needs a request in the same step (41_engine_fsm.md R142). -/
theorem State.level_of_pulsing {s : State} (h : s.pulsing = true) :
    triggerLevel (hostInstr s.cfg s.nextOp) = true := by
  unfold State.pulsing triggerPulse at h
  split at h
  · exact (Bool.and_eq_true_iff.1 h).1
  · exact h

/-- What `IDLE_START` does to a state: R146, or R153 for a zero size. -/
def startFrom (s : State) : State := if s.burstSize = 0 then zeroBurstStart s else s.latchBurst s.burstSize

/-- What a start of a burst, or a zero-size pulse, does to the fields that are not latched. -/
theorem startFrom_fields (s : State) :
    (startFrom s).cfg = s.cfg ∧ (startFrom s).wordsWritten = 0 ∧ (startFrom s).burstSize = s.burstSize ∧
      (startFrom s).baseAddress = s.baseAddress ∧ (startFrom s).addressOffset = s.addressOffset ∧
      (startFrom s).trigPrev = s.trigPrev ∧ (startFrom s).writeLog = s.writeLog ∧ (startFrom s).mem = s.mem ∧
      (startFrom s).rdata = s.rdata ∧ (startFrom s).offer = s.offer := by
  unfold startFrom
  split
  · unfold zeroBurstStart
    split <;> exact ⟨rfl, rfl, rfl, rfl, rfl, rfl, rfl, rfl, rfl, rfl⟩
  · exact ⟨rfl, rfl, rfl, rfl, rfl, rfl, rfl, rfl, rfl, rfl⟩

/-- Only `SKIP_COUNT` counts a zero-size pulse (R153). -/
theorem startFrom_passCount (s : State) :
    (startFrom s).passCount =
      if s.burstSize = 0 ∧ s.cfg.zeroBurst = .skipCount then (s.passCount + 1) % 2 ^ s.cfg.passW
      else s.passCount := by
  unfold startFrom
  split
  · next h0 =>
    unfold zeroBurstStart
    cases s.cfg.zeroBurst <;> simp [h0]
  · next h0 => simp [h0]

/-- Only `REFUSE` marks a zero-size pulse (R153, 60_exceptions.md R202). -/
theorem startFrom_refusal (s : State) :
    ((startFrom s).refused = true ↔ s.refused = true ∨ (s.burstSize = 0 ∧ s.cfg.zeroBurst = .refuse)) ∧
      (startFrom s).raised =
        s.raised ++ (if s.burstSize = 0 ∧ s.cfg.zeroBurst = .refuse then [.zeroBurst] else []) := by
  unfold startFrom
  split
  · next h0 =>
    unfold zeroBurstStart
    cases s.cfg.zeroBurst <;> simp [h0]
  · next h0 => simp [h0]

/-- A nonzero size latches the configuration (R146). -/
theorem startFrom_of_size {s : State} (h : s.burstSize ≠ 0) : startFrom s = s.latchBurst s.burstSize := if_neg h

/-- The six things a step can do. -/
inductive StepCase (s : State) : State → Prop where
  | reset (hr : s.nextRst = true) : StepCase s (s.resetEvent.advanceFrom s)
  | idleHold (hr : s.nextRst = false) (hs : s.currentState = .idle) (hp : s.pulsing = false) :
      StepCase s (s.mid.enterIdle.advanceFrom s)
  | idleStart (hr : s.nextRst = false) (hs : s.currentState = .idle) (hp : s.pulsing = true) :
      StepCase s ((startFrom s.mid).advanceFrom s)
  | advance (hr : s.nextRst = false) (hs : s.currentState = .active) (ha : s.nextAcc = true) (hl : s.last = false) :
      StepCase s (s.mid.acceptWrite.countWord.advanceFrom s)
  | complete (hr : s.nextRst = false) (hs : s.currentState = .active) (ha : s.nextAcc = true) (hl : s.last = true) :
      StepCase s (s.mid.acceptWrite.bumpPass.enterIdle.advanceFrom s)
  | stall (hr : s.nextRst = false) (hs : s.currentState = .active) (ha : s.nextAcc = false) :
      StepCase s (s.mid.advanceFrom s)

/-- The transition of a step (30_encoding.md R84). -/
theorem decodeFsm_engineKey (s : State) (op : HostOp) (acc : Bool) :
    decodeFsm (s.engineKey op acc) =
      rowOfBits s.wrValid (triggerPulse s.cfg.triggerMode (triggerLevel (hostInstr s.cfg op)) s.trigPrev)
        (s.wrValid && acc) s.last :=
  rowOfBits_key _ _ _ _

/-- A step without reset: the host's half, then the row of the key formed at its start. -/
theorem step_without_reset {s : State} (hr : s.nextRst = false) :
    step s = andThen (exec (rowOfBits s.wrValid s.pulsing (s.wrValid && s.nextAcc) s.last) s.mid)
      fun t => .next (t.advanceFrom s) := by
  unfold step stepFromInputs globalStep
  rw [hr, exec_host (hostSide_hostInstr _ _), decodeFsm_engineKey]
  rfl

theorem wrValid_of_idle {s : State} (h : s.currentState = .idle) : s.wrValid = false := by
  rw [State.wrValid, h]; rfl

theorem wrValid_of_active {s : State} (h : s.currentState = .active) : s.wrValid = true := by
  rw [State.wrValid, h]; rfl

/-- Each case is what the step does. -/
theorem step_of_case {s t : State} (h : StepCase s t) : step s = .next t := by
  cases h with
  | reset hr => rw [step, stepFromInputs, globalStep, hr]; rfl
  | idleHold hr hs hp => rw [step_without_reset hr, wrValid_of_idle hs, hp]; rfl
  | idleStart hr hs hp => rw [step_without_reset hr, wrValid_of_idle hs, hp]; rfl
  | advance hr hs ha hl => rw [step_without_reset hr, wrValid_of_active hs, ha, hl]; rfl
  | complete hr hs ha hl => rw [step_without_reset hr, wrValid_of_active hs, ha, hl]; rfl
  | stall hr hs ha => rw [step_without_reset hr, wrValid_of_active hs, ha]; rfl

/-- Some case applies to every state. -/
theorem exists_stepCase (s : State) : ∃ t, StepCase s t := by
  cases hr : s.nextRst with
  | true => exact ⟨_, .reset hr⟩
  | false =>
    cases hs : s.currentState with
    | idle =>
      cases hp : s.pulsing with
      | false => exact ⟨_, .idleHold hr hs hp⟩
      | true => exact ⟨_, .idleStart hr hs hp⟩
    | active =>
      cases ha : s.nextAcc with
      | false => exact ⟨_, .stall hr hs ha⟩
      | true =>
        cases hl : s.last with
        | false => exact ⟨_, .advance hr hs ha hl⟩
        | true => exact ⟨_, .complete hr hs ha hl⟩

/-- A step answers a state exactly when one of the six cases gives it. -/
theorem step_eq_next_iff {s t : State} : step s = .next t ↔ StepCase s t := by
  refine ⟨fun h => ?_, step_of_case⟩
  obtain ⟨u, hu⟩ := exists_stepCase s
  have := (step_of_case hu).symm.trans h
  cases this
  exact hu

end Sys2Proof.Machine
end

