-- ==== Sys2Proof/Laws/Run.lean ====
section
/-! SUPPORT. Laws/Run.lean: the small lemmas about the inputs of a step and about runs. -/

namespace Sys2Proof.Machine

theorem hostInstr_of_ok {p : Params} {op : HostOp} {i : Instr} (h : decodeCsr p op.key op.wdata = .ok i) :
    hostInstr p op = i := by
  unfold hostInstr
  rw [h]

theorem hostInstr_of_error {p : Params} {op : HostOp} {r : RefuseReason}
    (h : decodeCsr p op.key op.wdata = .error r) : hostInstr p op = .nop 0 := by
  unfold hostInstr
  rw [h]

theorem markBadKey_of_ok {s : State} {op : HostOp} {i : Instr} (h : decodeCsr s.cfg op.key op.wdata = .ok i) :
    s.markBadKey op = s := by
  unfold State.markBadKey
  rw [h]

theorem markBadKey_of_error {s : State} {op : HostOp} {r : RefuseReason}
    (h : decodeCsr s.cfg op.key op.wdata = .error r) : s.markBadKey op = s.refuse r := by
  unfold State.markBadKey
  rw [h]

/-- The host's half of a step whose transaction decodes. -/
theorem mid_of_ok {s : State} {i : Instr} (h : decodeCsr s.cfg s.nextOp.key s.nextOp.wdata = .ok i) :
    s.mid = s.present.afterHost i := by
  unfold State.mid
  rw [hostInstr_of_ok h, markBadKey_of_ok (s := s.present) h]

/-- The host's half of a step whose key is refused. -/
theorem mid_of_error {s : State} {r : RefuseReason} (h : decodeCsr s.cfg s.nextOp.key s.nextOp.wdata = .error r) :
    s.mid = (s.present.refuse r).afterHost (.nop 0) := by
  unfold State.mid
  rw [hostInstr_of_error h, markBadKey_of_error (s := s.present) h]

/-- Past the end of its program the host issues `NOP` (30_encoding.md R93). -/
theorem nextOp_of_issued {s : State} (h : s.hostProg = []) : s.nextOp = hostNop := by
  unfold State.nextOp
  rw [h]

/-- The conditions (a) and (b) of 70_reset_and_hazards.md R252 give (c). -/
theorem atEnd_iff {s : State} : s.AtEnd ↔ s.hostProg = [] ∧ s.currentState = .idle :=
  ⟨fun h => ⟨h.issued, h.idle⟩, fun h => ⟨h.1, h.2, by rw [nextOp_of_issued h.1]; rfl⟩⟩

theorem burstLength_pos (s : State) : 1 ≤ s.burstLength := by
  unfold State.burstLength
  split
  · exact Nat.one_le_two_pow
  · next h => exact Nat.one_le_iff_ne_zero.2 h

/-- The terminal test for every latched size (41_engine_fsm.md R152). -/
theorem last_iff_burstLength {s : State} (h : s.latSize < 2 ^ s.cfg.burstSizeW) :
    s.last = true ↔ s.wordsWritten + 1 = s.burstLength := by
  have hpos := burstLength_pos s
  unfold State.burstLength at hpos ⊢
  split at hpos
  · next h0 => rw [last_iff_of_zero h0, if_pos h0]; omega
  · next h0 => rw [last_iff hpos h, if_neg h0]; omega

theorem accepting_of_idle {s : State} (h : s.currentState = .idle) : s.accepting = false := by
  rw [State.accepting, wrValid_of_idle h]
  rfl

theorem accepting_of_active {s : State} (h : s.currentState = .active) (hr : s.nextRst = false) :
    s.accepting = s.nextAcc := by
  rw [State.accepting, wrValid_of_active h, hr]
  cases s.nextAcc <;> rfl

theorem accepting_of_reset {s : State} (h : s.nextRst = true) : s.accepting = false := by
  rw [State.accepting, h]
  cases s.wrValid && s.nextAcc <;> rfl

/-- A run of a schedule without reset starts with no reset. -/
theorem nextRst_of_noReset {s : State} (h : s.NoReset) : s.nextRst = false := by
  unfold State.NoReset at h
  unfold State.nextRst
  split
  · rfl
  · next r rest hr =>
    rw [hr] at h
    cases r
    · rfl
    · exact absurd List.mem_cons_self h

/-- How the model's own fields move on in a step, and that the configuration stays. -/
theorem step_inputs {s t : State} (h : step s = .next t) :
    t.cfg = s.cfg ∧ t.stepNo = s.stepNo + 1 ∧ t.hostProg = s.hostRest ∧ t.busSched = s.busSched.tail ∧
      t.rstSched = s.rstSched.tail := by
  cases step_eq_next_iff.1 h with
  | idleStart => exact ⟨(startFrom_fields s.mid).1.trans s.mid_cfg, rfl, rfl, rfl, rfl⟩
  | reset => exact ⟨rfl, rfl, rfl, rfl, rfl⟩
  | _ => exact ⟨s.mid_cfg, rfl, rfl, rfl, rfl⟩

theorem noReset_step {s t : State} (hn : s.NoReset) (h : step s = .next t) : t.NoReset := fun ht =>
  hn (List.mem_of_mem_tail ((step_inputs h).2.2.2.2 ▸ ht))

theorem reaches_zero {s t : State} : s.Reaches 0 t ↔ t = s := by
  have hrun : core.run 0 s = .next s := rfl
  unfold State.Reaches
  rw [hrun]
  exact ⟨fun h => by cases h; rfl, fun h => h ▸ rfl⟩

theorem reaches_succ {s t : State} {n : Nat} : s.Reaches (n + 1) t ↔ ∃ u, step s = .next u ∧ u.Reaches n t := by
  obtain ⟨u, hu⟩ := exists_stepCase s
  have hu := step_of_case hu
  have hrun : core.run (n + 1) s = core.run n u := by
    have : core.step s = .next u := hu
    simp only [Host.Core.run, this]
  unfold State.Reaches
  rw [hrun]
  refine ⟨fun h => ⟨u, hu, h⟩, fun ⟨v, hv, h⟩ => ?_⟩
  cases hu.symm.trans hv
  exact h

theorem reaches_trans {m n : Nat} {s t u : State} (h₁ : s.Reaches n t) (h₂ : t.Reaches m u) :
    s.Reaches (n + m) u := by
  induction n generalizing s with
  | zero =>
    rw [reaches_zero.1 h₁] at h₂
    rwa [Nat.zero_add]
  | succ n ih =>
    obtain ⟨v, hv, h₁⟩ := reaches_succ.1 h₁
    rw [show n + 1 + m = n + m + 1 by omega]
    exact reaches_succ.2 ⟨v, hv, ih h₁⟩

theorem acceptCount_succ {s t : State} (n : Nat) (h : step s = .next t) :
    s.acceptCount (n + 1) = (if s.accepting then 1 else 0) + t.acceptCount n := by
  rw [State.acceptCount, h]

end Sys2Proof.Machine
end

