-- ==== Sys2Proof/Tests/Slice0.lean ====
section
/-! SUPPORT. Tests/Slice0.lean: tests with results from the spec, and a witness for the hypotheses of each statement.

`V-…` names a vector of 95_test_vectors.md; R names the rule a result is worked out from by hand. -/

namespace Sys2Proof.Tests

open Sys2Proof.Machine

/-! ## Well-formedness: one ill-formed term for each check -/

theorem test_wf_nop : (Instr.nop 0x10000).wellFormed Config.defaults = false ∧
    (Instr.nop 0xFFFF).wellFormed Config.defaults = true := by decide

theorem test_wf_trigger : (Instr.csrwStartTrigger 0x100000000).wellFormed Config.defaults = false ∧
    (Instr.csrwStartTrigger 0xFFFFFFFF).wellFormed Config.defaults = true := by decide

theorem test_wf_burst_size : (Instr.csrwBurstSize 0x100000000).wellFormed Config.defaults = false ∧
    (Instr.csrwBurstSize 0xFFFFFFFF).wellFormed Config.defaults = true := by decide

theorem test_wf_base_address : (Instr.csrwBaseAddress 0x100000000).wellFormed Config.defaults = false ∧
    (Instr.csrwBaseAddress 0xFFFFFFFF).wellFormed Config.defaults = true := by decide

theorem test_wf_address_offset : (Instr.csrwAddressOffset 0x100000000).wellFormed Config.defaults = false ∧
    (Instr.csrwAddressOffset 0xFFFFFFFF).wellFormed Config.defaults = true := by decide

/-! ## Decoding: a word of every row, its bits written out from the field tables R81 and R83

CSR words: VALID, WE, RSV (7 bits), OFFSET (8 bits). FSM words: ST, TRG, ACC, LAST. -/

theorem test_decode_nop : decodeTableWord 24 0b0_0_0000000_00000000 = some (.nop 0) := by decide

theorem test_decode_nop_ignored_bits : decodeTableWord 24 0b0_1_1111111_00000001 = some (.nop 0xFF01) := by decide

theorem test_decode_csrw_start_trigger :
    decodeTableWord 56 (0x1 * 2 ^ 24 + 0b1_1_0000000_00000000) = some (.csrwStartTrigger 1) := by decide

theorem test_decode_csrr_start_trigger : decodeTableWord 24 0b1_0_0000000_00000000 = some .csrrStartTrigger := by
  decide

theorem test_decode_csrw_burst_size :
    decodeTableWord 56 (0xFFFFFFFF * 2 ^ 24 + 0b1_1_0000000_00001000) = some (.csrwBurstSize 0xFFFFFFFF) := by decide

theorem test_decode_csrr_burst_size : decodeTableWord 24 0b1_0_0000000_00001000 = some .csrrBurstSize := by decide

theorem test_decode_csrw_base_address :
    decodeTableWord 56 (0x1003 * 2 ^ 24 + 0b1_1_0000000_00001100) = some (.csrwBaseAddress 0x1003) := by decide

theorem test_decode_csrr_base_address : decodeTableWord 24 0b1_0_0000000_00001100 = some .csrrBaseAddress := by decide

theorem test_decode_csrw_address_offset :
    decodeTableWord 56 (0x10 * 2 ^ 24 + 0b1_1_0000000_00010000) = some (.csrwAddressOffset 0x10) := by decide

theorem test_decode_csrr_address_offset : decodeTableWord 24 0b1_0_0000000_00010000 = some .csrrAddressOffset := by
  decide

theorem test_decode_csrr_ready : decodeTableWord 24 0b1_0_0000000_00000100 = some .csrrReady := by decide

theorem test_decode_csrr_pass_count : decodeTableWord 24 0b1_0_0000000_00010100 = some .csrrPassCount := by decide

theorem test_decode_idle_hold : decodeTableWord 8 0b0010 = some (.idleHold true false) := by decide

theorem test_decode_idle_start : decodeTableWord 8 0b0101 = some (.idleStart false true) := by decide

theorem test_decode_active_advance : decodeTableWord 8 0b1110 = some (.activeAdvance true) := by decide

theorem test_decode_active_complete : decodeTableWord 8 0b1011 = some (.activeComplete false) := by decide

theorem test_decode_active_stall : decodeTableWord 8 0b1001 = some (.activeStall false true) := by decide

/-- V-C10 to V-C14: read-only registers, a misaligned and an unmapped offset, a reserved bit; each by its own name. -/
theorem test_decode_refused :
    decode Config.defaults (.csr 0x18004 0) = .error (.badCsrKey 0x18004) ∧
      decode Config.defaults (.csr 0x18014 5) = .error (.badCsrKey 0x18014) ∧
      decode Config.defaults (.csr 0x10001 0) = .error (.badCsrKey 0x10001) ∧
      decode Config.defaults (.csr 0x10018 0) = .error (.badCsrKey 0x10018) ∧
      decode Config.defaults (.csr 0x10108 0) = .error (.badCsrKey 0x10108) := by decide

/-- Filler bits of a word that is no frame. -/
theorem test_decode_filler : decodeTableWord 24 0x38008 = none ∧ decodeTableWord 8 0b11011 = none := by decide

/-- R92: `START` and the other mnemonics of the host's notation spell the keys of R82. -/
theorem test_notation_keys :
    hostStart = .txn 0x18000 1 ∧ hostNop = .txn 0x00000 0 ∧ hostCsrr .passCount = .txn 0x10014 0 ∧
      HostOp.waitRdy.key = 0x10004 ∧
      hostConfig 4 0x1000 0 = [.txn 0x18008 4, .txn 0x1800C 0x1000, .txn 0x18010 0] := by decide

/-! ## One step -/

/-- The state of an outcome. -/
def nextOf : Host.Outcome State Fault Refusal → Option State
  | .next s => some s
  | .fault _ => none
  | .refused _ => none

/-- The state after a step with a host operation and a bus answer. -/
def after (s : State) (op : HostOp) (acc : Bool) : Option State := nextOf (globalStep s op false acc)

/-- An idle state with a configuration. -/
def idleWith (size base off : Nat) : State :=
  { State.reset with burstSize := size, baseAddress := base, addressOffset := off }

/-- An active state of a burst, at a word of it. -/
def burstAt (size base off word pass : Nat) : State :=
  { State.reset with
    currentState := .active
    latSize := size
    latBase := base
    latOffset := off
    wordsWritten := word
    passCount := pass }

/-- V-C18. -/
theorem test_nop_clears_trig_prev :
    (after { State.reset with trigPrev := true } hostNop true).map (fun t => (t.trigPrev, t.currentState, t.refused)) =
      some (false, .idle, false) := by decide

/-- V-C16: `WDATA[0] = 0` is no request. -/
theorem test_trigger_bit_zero_clear :
    (after (idleWith 1 0 0) (.txn 0x18000 2) true).map (fun t => (t.currentState, t.trigPrev)) =
      some (.idle, false) := by decide

/-- V-C17. -/
theorem test_trigger_all_ones :
    (after (idleWith 1 0 0) (.txn 0x18000 0xFFFFFFFF) true).map (fun t => (t.currentState, t.latSize, t.trigPrev)) =
      some (.active, 1, true) := by decide

/-- V-C15: the request of the step before is forgotten; the word read is the draw. -/
theorem test_trigger_read :
    (nextOf (exec .csrrStartTrigger { State.reset with trigPrev := true })).map (·.trigPrev) = some false := by decide

/-- V-C1. -/
theorem test_burst_size_truncates :
    (after State.reset (.txn 0x18008 0x00012345) true).map (·.burstSize) = some 0x2345 := by decide

/-- V-C3. -/
theorem test_burst_size_high_bit_only :
    (after (idleWith 7 0 0) (.txn 0x18008 0x00010000) true).map (·.burstSize) = some 0 := by decide

/-- V-C9 for a register of all ones: bits 15:0 are the register, whatever the draw. -/
theorem test_burst_size_read :
    ∃ r, (nextOf (exec .csrrBurstSize (idleWith 0xFFFF 0 0))).bind (·.rdata) = some r ∧ r % 2 ^ 16 = 0xFFFF :=
  ⟨_, rfl, readWord_low _ _ _ _⟩

/-- V-C4, the write: low bits are kept in the register. -/
theorem test_base_address_write :
    (after State.reset (.txn 0x1800C 0x00001003) true).map (·.baseAddress) = some 0x1003 := by decide

/-- V-C4, the read. -/
theorem test_base_address_read :
    (nextOf (exec .csrrBaseAddress (idleWith 0 0x1003 0))).bind (·.rdata) = some 0x1003 :=
  congrArg some (readWord_full _ _ _)

/-- V-C5, the write. -/
theorem test_address_offset_write :
    (after State.reset (.txn 0x18010 0xFFFFFFFF) true).map (·.addressOffset) = some 0xFFFFFFFF := by decide

/-- V-C5, the read; the latched copy is not read. -/
theorem test_address_offset_read :
    (nextOf (exec .csrrAddressOffset { idleWith 0 0 0xFFFFFFFF with latOffset := 5 })).bind (·.rdata) =
      some 0xFFFFFFFF :=
  congrArg some (readWord_full _ _ _)

/-- V-C6. -/
theorem test_ready_read_idle :
    ∃ r, (nextOf (exec .csrrReady State.reset)).bind (·.rdata) = some r ∧ r % 2 ^ 1 = 1 :=
  ⟨_, rfl, readWord_low _ _ _ _⟩

/-- V-C7. -/
theorem test_ready_read_active :
    ∃ r, (nextOf (exec .csrrReady (burstAt 4 0 0 0 0))).bind (·.rdata) = some r ∧ r % 2 ^ 1 = 0 :=
  ⟨_, rfl, readWord_low _ _ _ _⟩

/-- V-C8 for the largest count. -/
theorem test_pass_count_read :
    ∃ r, (nextOf (exec .csrrPassCount (burstAt 4 0 0 0 31))).bind (·.rdata) = some r ∧ r % 2 ^ 5 = 31 :=
  ⟨_, rfl, readWord_low _ _ _ _⟩

/-- V-C10: the mark, the reason, and nothing else. -/
theorem test_write_of_ready_refused :
    (after State.reset (.txn 0x18004 0) true).map (fun t => (t.refused, t.raised, t.currentState)) =
      some (true, [.badCsrKey 0x18004], .idle) := by decide

/-- V-C11. -/
theorem test_write_of_pass_count_refused :
    (after State.reset (.txn 0x18014 5) true).map (fun t => (t.refused, t.passCount)) = some (true, 0) := by decide

/-- V-E1. -/
theorem test_idle_hold :
    (after { State.reset with passCount := 3 } hostNop true).map (fun t => (t.offer, t.writeLog, t.passCount)) =
      some (none, [], 3) := by decide

/-- V-E13, `EDGE`: a request held from the step before. -/
theorem test_idle_hold_no_edge :
    (after { idleWith 1 0 0 with trigPrev := true } hostStart true).map (fun t => (t.currentState, t.trigPrev)) =
      some (.idle, true) := by decide

/-- V-E2. -/
theorem test_idle_start :
    (after (idleWith 4 0x1000 0x20) hostStart true).map
        (fun t => (t.currentState, (t.latSize, t.latBase, t.latOffset), t.wordsWritten, t.offer)) =
      some (.active, (4, 0x1000, 0x20), 0, none) := by decide

/-- V-E13, `PER_WRITE`. -/
theorem test_idle_start_per_write :
    (after { idleWith 1 0 0 with trigPrev := true, cfg := { Config.defaults with triggerMode := .perWrite } } hostStart
        true).map (·.currentState) = some .active := by decide

/-- V-E3. -/
theorem test_active_advance :
    (after { burstAt 4 0x1000 0 1 0 with stepNo := 9 } hostNop true).map
        (fun t => (t.offer, t.writeLog, t.wordsWritten)) =
      some (some ⟨0x401, 0⟩, [⟨9, 0x401, 0⟩], 2) := by decide

/-- V-E16: the bytes at the target. -/
theorem test_active_advance_bytes :
    (after (burstAt 2 0x100 0 0 7) hostNop true).map (·.mem) =
      some [(0x100, 0), (0x101, 0), (0x102, 0), (0x103, 7)] := by decide

/-- V-E5: the entry carries the old count, which then wraps. -/
theorem test_active_complete :
    (after (burstAt 1 0 0 0 31) hostNop true).map (fun t => (t.currentState, t.writeLog, t.passCount)) =
      some (.idle, [⟨0, 0, 0x1F⟩], 0) := by decide

/-- V-E8: a trigger in the terminal step is dropped. -/
theorem test_active_complete_drops_trigger :
    (after { burstAt 4 0x1000 0 3 0 with burstSize := 4 } hostStart true).map
        (fun t => (t.currentState, t.passCount, t.trigPrev)) = some (.idle, 1, true) := by decide

/-- V-E6. -/
theorem test_active_stall :
    (after (burstAt 4 0x1000 0 2 0) hostNop false).map (fun t => (t.offer, t.writeLog, t.wordsWritten, t.currentState)) =
      some (some ⟨0x402, 0⟩, [], 2, .active) := by decide

/-- V-E7: a pulse while active is ignored. -/
theorem test_active_advance_ignores_trigger :
    (after { burstAt 4 0x1000 0 1 0 with burstSize := 9 } hostStart true).map (fun t => (t.wordsWritten, t.latSize)) =
      some (2, 4) := by decide

/-- V-E9, V-E10 and V-E11: each register is shifted on its own, then added. -/
theorem test_word_address :
    (burstAt 2 0x1003 0x1 0 0).wordAddr = 0x400 ∧ (burstAt 1 2 2 0 0).wordAddr = 0 ∧
      (burstAt 0xFFFF 0xFFFFFFFF 0xFFFFFFFF 0 0).wordAddr = 0x7FFFFFFE ∧
      (burstAt 0xFFFF 0xFFFFFFFF 0xFFFFFFFF 0xFFFE 0).wordAddr = 0x8000FFFC ∧
      (burstAt 0xFFFF 0xFFFFFFFF 0xFFFFFFFF 0xFFFE 0).last = true := by decide

/-- V-E15. -/
theorem test_reset_mid_burst :
    (nextOf (globalStep { burstAt 4 0x1000 0 2 3 with burstSize := 4, writeLog := [⟨1, 0x400, 3⟩] } hostStart true
        true)).map (fun t => (t.currentState, t.wordsWritten, t.passCount, t.burstSize, t.trigPrev, t.writeLog.length)) =
      some (.idle, 0, 0, 0, false, 1) := by decide

/-- V-Z1 to V-Z5, step 0: the state, the latched size, the count and the mark under each policy. -/
theorem test_zero_burst_policies :
    [ZeroBurstPolicy.refuse, .skip, .skipCount, .asOne, .wrap].map (fun z =>
        (after { State.reset with passCount := 5, latSize := 9, cfg := { Config.defaults with zeroBurst := z } } hostStart
          true).map fun t => (t.currentState, t.latSize, t.passCount, t.refused)) =
      [some (.idle, 9, 5, true), some (.idle, 9, 5, false), some (.idle, 9, 6, false), some (.active, 1, 5, false),
        some (.active, 0, 5, false)] := by decide

/-- V-Z5, the last step of the burst of latched size 0. -/
theorem test_wrap_terminal :
    (after { burstAt 0 0 0 0xFFFF 5 with cfg := { Config.defaults with zeroBurst := .wrap } } hostNop true).map
        (fun t => (t.currentState, t.wordsWritten, t.passCount, t.writeLog)) =
      some (.idle, 0, 6, [⟨0, 0xFFFF, 5⟩]) := by decide

/-! ## A placed word runs next -/

/-- R112 through a placed CSR word with a data word. -/
theorem test_place_csr :
    (nextOf (step (State.reset.withFetchWord 56 (0x12345 * 2 ^ 24 + 0x18008)))).map (·.burstSize) = some 0x2345 := by
  decide

/-- Every FSM key that the engine can form is formed by the step it is placed for: `ACC` is 0 in `IDLE` (R172). -/
theorem test_place_fsm :
    ∀ key : FsmKey, (key.getLsbD 3 = true ∨ key.getLsbD 1 = false) →
      let s := State.reset.withFetchWord 8 key.toNat
      s.engineKey s.nextOp s.nextAcc = key ∧ s.nextRst = false := by decide

/-- In `IDLE` a key with `ACC = 1` selects the row that its fellow with `ACC = 0` selects. -/
theorem test_place_fsm_idle :
    ∀ key : FsmKey, key.getLsbD 3 = false →
      let s := State.reset.withFetchWord 8 key.toNat
      (decodeFsm (s.engineKey s.nextOp s.nextAcc)).mnemonic = (decodeFsm key).mnemonic := by decide

/-! ## Witnesses: a state and operands for the hypotheses of each statement, and for each clause at an edge of its range -/

theorem defaults_ok : Config.defaults.Ok := by constructor <;> decide

/-- A step that takes a given host operation and bus answer, without reset. -/
def issue (s : State) (op : HostOp) (acc : Bool) : State := { s with hostProg := [op], busSched := [acc] }

theorem test_witness_DecodeEncodeRoundTrip :
    (Instr.nop 0xFFFF).wellFormed Config.defaults = true ∧
      (Instr.csrwBaseAddress 0xFFFFFFFF).wellFormed Config.defaults = true ∧
      (Instr.activeStall true true).wellFormed Config.defaults = true := by decide

/-- An ignored word, a read, and a write whose data word is wider than the lines. -/
theorem test_witness_EncodeDecodeCsrKey :
    decodeCsr Config.defaults 0x0FFFF 5 = .ok (.nop 0xFFFF) ∧
      decodeCsr Config.defaults 0x10014 5 = .ok .csrrPassCount ∧
      decodeCsr Config.defaults 0x18010 (2 ^ 32 + 5) = .ok (.csrwAddressOffset 5) := by decide

/-- A key for each of (a), (b) and (c), at the first and last of each range, and two for none of them. -/
theorem test_witness_CsrKeysRefusedExactly :
    (CsrKey.valid 0x10108 = true ∧ CsrKey.rsv 0x10108 = 1) ∧ (CsrKey.valid 0x17F08 = true ∧ CsrKey.rsv 0x17F08 = 0x7F) ∧
      (CsrKey.valid 0x10001 = true ∧ CsrKey.offset 0x10001 = 0x01) ∧
      (CsrKey.valid 0x10018 = true ∧ CsrKey.offset 0x10018 = 0x18) ∧
      (CsrKey.valid 0x18004 = true ∧ CsrKey.we 0x18004 = true ∧ CsrKey.offset 0x18004 = 0x04) ∧
      (CsrKey.valid 0x18014 = true ∧ CsrKey.we 0x18014 = true ∧ CsrKey.offset 0x18014 = 0x14) ∧
      decodeCsr Config.defaults 0x10000 0 = .ok .csrrStartTrigger ∧
      decodeCsr Config.defaults 0x18010 0 = .ok (.csrwAddressOffset 0) := by decide

theorem test_witness_CsrKeysRefusedWhereNoRowMatches :
    decodeCsr Config.defaults 0x1001C 0 = .error (.badCsrKey 0x1001C) ∧ (Frame.csr 0x1001C 0).rows = [] ∧
      decodeCsr Config.defaults 0x10014 0 = .ok .csrrPassCount := by decide

/-- The first and last address of the window, and the ones beside it. -/
theorem test_witness_HostAccessByAddress :
    (hostAccess 0x500 0x500 true 1).key = 0x18000 ∧ (hostAccess 0x500 0x5FF false 0).key = 0x100FF ∧
      (hostAccess 0x500 0x4FF true 1).key.valid = false ∧ (hostAccess 0x500 0x600 true 1).key.valid = false := by
  decide

theorem test_witness_NopClearsTrigPrev : CsrKey.valid 0x0FFFF = false ∧ CsrKey.valid 0x00000 = false := by decide

/-- All registers at their largest value; for the reads of `burst_size`, `base_address`, `address_offset`. -/
theorem test_witness_reads :
    (idleWith 0xFFFF 0xFFFFFFFF 0xFFFFFFFF).WidthsOk ∧
      (idleWith 0xFFFF 0xFFFFFFFF 0xFFFFFFFF).cfg.addrRegW = (idleWith 0xFFFF 0xFFFFFFFF 0xFFFFFFFF).cfg.csrDataW :=
  ⟨by constructor <;> decide, rfl⟩

theorem test_witness_PassCountReadReturnsCounter : (burstAt 1 0 0 0 31).WidthsOk := by
  constructor <;> decide

theorem test_witness_IdleStartLatchesConfiguration :
    (idleWith 1 0 0).burstSize ≠ 0 ∧ (idleWith 0xFFFF 0 0).burstSize ≠ 0 := by decide

/-- One state for each policy. -/
theorem test_witness_ZeroBurstPolicies :
    ∀ z ∈ [ZeroBurstPolicy.refuse, .skip, .skipCount, .asOne, .wrap],
      { State.reset with cfg := { Config.defaults with zeroBurst := z } }.burstSize = 0 := by decide

theorem test_witness_AdvanceWritesAndCounts : (burstAt 4 0x1000 0 1 0).currentState = .active := rfl

/-- Both bounds are met: V-E11, and the last word of a burst of latched size 0 under `WRAP`. -/
theorem test_witness_WordAddressIsExactSum :
    ((burstAt 0xFFFF 0xFFFFFFFF 0xFFFFFFFF 0xFFFE 0).WidthsOk ∧
        (burstAt 0xFFFF 0xFFFFFFFF 0xFFFFFFFF 0xFFFE 0).CounterOk ∧
        (burstAt 0xFFFF 0xFFFFFFFF 0xFFFFFFFF 0xFFFE 0).wordAddr = 0x8000FFFC) ∧
      let s := { burstAt 0 0xFFFFFFFF 0xFFFFFFFF 0xFFFF 0 with cfg := { Config.defaults with zeroBurst := .wrap } }
      s.cfg = { Config.defaults with zeroBurst := s.cfg.zeroBurst, triggerMode := s.cfg.triggerMode } ∧
        s.WidthsOk ∧ s.CounterOk ∧ s.currentState = .active ∧ s.wordAddr = 0x8000FFFD :=
  ⟨⟨by constructor <;> decide, .inl (by decide), by decide⟩,
    rfl, by constructor <;> decide, .inr (by decide), rfl, by decide⟩

theorem test_witness_PayloadIsPassCount :
    (burstAt 1 0 0 0 31).cfg = Config.defaults ∧ (burstAt 1 0 0 0 31).WidthsOk :=
  ⟨rfl, test_witness_PassCountReadReturnsCounter⟩

/-- The last word of a burst and the one before it, and the same for a burst of latched size 0. -/
theorem test_witness_TerminalTestExact :
    ((burstAt 0xFFFF 0 0 0xFFFE 0).WidthsOk ∧ (burstAt 0xFFFF 0 0 0xFFFE 0).CounterOk ∧
        (burstAt 0xFFFF 0 0 0xFFFE 0).currentState = .active ∧ 1 ≤ (burstAt 0xFFFF 0 0 0xFFFE 0).latSize ∧
        (burstAt 0xFFFF 0 0 0xFFFE 0).last = true) ∧
      ((burstAt 0xFFFF 0 0 0xFFFD 0).CounterOk ∧ (burstAt 0xFFFF 0 0 0xFFFD 0).last = false) ∧
      let s := { burstAt 0 0 0 0xFFFF 0 with cfg := { Config.defaults with zeroBurst := .wrap } }
      let s' := { s with wordsWritten := 0xFFFE }
      s.WidthsOk ∧ s.CounterOk ∧ s.currentState = .active ∧ s.latSize = 0 ∧ s.last = true ∧ s'.CounterOk ∧
        s'.last = false :=
  ⟨⟨by constructor <;> decide, .inl (by decide), rfl, by decide,
    by decide⟩, ⟨.inl (by decide), by decide⟩,
    by constructor <;> decide, .inr (by decide), rfl, rfl, by decide, .inr (by decide), by decide⟩

theorem test_witness_StepRunsDecodedOperations :
    let s := issue (idleWith 4 0 0) hostStart true
    s.nextRst = false ∧ decodeCsr s.cfg s.nextOp.key s.nextOp.wdata = .ok (.csrwStartTrigger 1) := by decide

/-- A configuration write in a terminal step, where the two halves write different registers. -/
theorem test_witness_StepPartsReadStart :
    let s := issue (burstAt 4 0x1000 0 3 0) (hostCsrw .baseAddress 0x8000) true
    s.nextRst = false ∧ decodeCsr s.cfg s.nextOp.key s.nextOp.wdata = .ok (.csrwBaseAddress 0x8000) ∧
      (nextOf (step s)).map (fun t => (t.baseAddress, t.currentState, t.passCount)) = some (0x8000, .idle, 1) := by decide

theorem test_witness_RefusedKeyActsAsNop :
    let s := issue (burstAt 4 0 0 1 0) (.txn 0x18014 5) true
    s.nextRst = false ∧ s.hostProg = .txn 0x18014 5 :: [] ∧
      decodeCsr s.cfg 0x18014 5 = .error (.badCsrKey 0x18014) := by decide

theorem test_witness_ResetEventEffect : { burstAt 4 0 0 1 7 with rstSched := [true] }.nextRst = true := rfl

theorem test_witness_OfferFixedByState : (idleWith 4 0 0).currentState = .idle := rfl

/-- For the statements about a trigger or a configuration write in an active step; the second state is a terminal one. -/
theorem test_witness_active_step :
    (burstAt 4 0 0 1 0).cfg.Ok ∧ (burstAt 4 0 0 1 0).currentState = .active ∧ (burstAt 4 0 0 1 0).last = false ∧
      (burstAt 4 0 0 3 0).currentState = .active ∧ (burstAt 4 0 0 3 0).last = true :=
  ⟨defaults_ok, rfl, by decide, rfl, by decide⟩

theorem test_witness_StallHoldsOffer :
    let s := issue (burstAt 4 0x1000 0 2 5) (.txn 0x1800C 0x8000) false
    s.currentState = .active ∧ s.nextRst = false ∧ s.nextAcc = false ∧ ∃ t, step s = .next t :=
  ⟨rfl, rfl, rfl, _, rfl⟩

/-- Active after a start, after a rejection of the terminal offer and after an acceptance before it; idle after the terminal
acceptance. -/
theorem test_witness_EngineActiveExactlyWhen :
    (nextOf (step (issue (idleWith 1 0 0) hostStart true))).map (·.currentState) = some .active ∧
      (nextOf (step (issue (burstAt 2 0 0 1 0) hostNop false))).map (·.currentState) = some .active ∧
      (nextOf (step (issue (burstAt 2 0 0 0 0) hostNop true))).map (·.currentState) = some .active ∧
      (nextOf (step (issue (burstAt 2 0 0 1 0) hostNop true))).map (·.currentState) = some .idle := by decide

/-- One state for each clause. -/
theorem test_witness_WordsWrittenRule :
    (issue (burstAt 2 0 0 1 0) hostNop true).accepting = true ∧ (burstAt 2 0 0 1 0).last = true ∧
      (issue (burstAt 2 0 0 0 0) hostNop true).accepting = true ∧ (burstAt 2 0 0 0 0).last = false ∧
      (issue (burstAt 2 0 0 1 0) hostNop false).accepting = false := by decide

/-- The clause of `SKIP_COUNT`; the others are those of `words_written`. -/
theorem test_witness_PassCountRule :
    let s := { issue (idleWith 0 0 0) hostStart true with cfg := { Config.defaults with zeroBurst := .skipCount } }
    s.currentState = .idle ∧ s.pulsing = true ∧ s.burstSize = 0 ∧
      (nextOf (step s)).map (·.passCount) = some 1 := by decide

theorem test_witness_LatchedCopiesRule :
    let s := issue (idleWith 4 0x1000 0x20) hostStart true
    s.nextRst = false ∧ s.currentState = .idle ∧ (∃ t, step s = .next t ∧ t.currentState = .active) ∧ s.burstSize ≠ 0 :=
  ⟨rfl, rfl, ⟨_, rfl, by decide⟩, by decide⟩

/-- One operation of each side. -/
theorem test_witness_OwnershipPartitioned :
    (∃ t, exec (.csrwBurstSize 4) State.reset = .next t) ∧ encode (.csrwBurstSize 4) = .csr 0x18008 4 ∧
      (∃ t, exec (.activeComplete false) (burstAt 1 0 0 0 0) = .next t) ∧ encode (.activeComplete false) = .fsm 0b1011 :=
  ⟨⟨_, rfl⟩, rfl, ⟨_, rfl⟩, by decide⟩

/-- A write, then one of another register. -/
theorem test_witness_ConfigurationReadsBack :
    let s := { State.reset with hostProg := [hostCsrw .burstSize 0x12345, hostCsrw .baseAddress 1] }
    s.cfg.Ok ∧ s.NoReset ∧ s.hostProg = hostCsrw .burstSize 0x12345 :: [hostCsrw .baseAddress 1] ∧
      (∀ op ∈ [hostCsrw .baseAddress 1], op.key ≠ csrKey true CsrReg.burstSize.offset) ∧ ∃ t, s.Reaches 2 t :=
  ⟨defaults_ok, by unfold State.NoReset; decide, rfl, by decide,
    _, reaches_succ.2 ⟨_, rfl, reaches_succ.2 ⟨_, rfl, reaches_zero.2 rfl⟩⟩⟩

/-- A held request gives one pulse under `EDGE` and two under `PER_WRITE` (R243). -/
theorem test_witness_PulseOnRisingEdge :
    let s := { idleWith 1 0 0 with hostProg := [hostStart, hostStart], busSched := [true, true] }
    s.nextRst = false ∧ (∃ t, step s = .next t ∧ s.pulsing = true ∧ t.pulsing = false) ∧
      let s' := { s with cfg := { Config.defaults with triggerMode := .perWrite } }
      ∃ t, step s' = .next t ∧ s'.pulsing = true ∧ t.pulsing = true :=
  ⟨rfl, ⟨_, rfl, by decide, by decide⟩, _, rfl, by decide, by decide⟩

theorem test_witness_FirstOfferFollowsTrigger :
    let s := { idleWith 4 0x1000 0 with hostProg := [hostStart], busSched := [true, true] }
    s.currentState = .idle ∧ s.nextRst = false ∧ s.pulsing = true ∧ s.burstSize ≠ 0 ∧
      ∃ t, step s = .next t ∧ t.nextRst = false ∧ ∃ u, step t = .next u ∧ u.offer = some ⟨0x400, 0⟩ :=
  ⟨rfl, rfl, by decide, by decide, _, rfl, rfl, _, rfl, by decide⟩

theorem test_witness_WriteLogAppends :
    (issue (burstAt 2 0 0 0 0) hostNop true).accepting = true ∧
      (issue (burstAt 2 0 0 0 0) hostNop false).accepting = false ∧
      { issue (burstAt 2 0 0 0 0) hostNop true with rstSched := [true] }.accepting = false := by decide

/-- A step for each reason. -/
theorem test_witness_RefusalMarkRule :
    (nextOf (step (issue State.reset (.txn 0x10001 0) true))).map (·.raised) = some [.badCsrKey 0x10001] ∧
      (nextOf (step (issue State.reset hostStart true))).map (·.raised) = some [.zeroBurst] ∧
      (nextOf (step (issue State.reset hostNop true))).map (·.raised) = some [] := by decide

theorem test_witness_RefusalMarkSticky : ∃ t, (issue State.reset hostNop true).Reaches 1 t ∧ t.Meaningful :=
  ⟨_, reaches_succ.2 ⟨_, rfl, reaches_zero.2 rfl⟩, by unfold State.Meaningful; decide⟩

/-- In `IDLE` the operation ends, in `ACTIVE` it stays. -/
theorem test_witness_WaitRdyEndsWhenReady :
    (issue State.reset .waitRdy true).hostProg = .waitRdy :: [] ∧ (issue State.reset .waitRdy true).nextRst = false ∧
      (nextOf (step (issue State.reset .waitRdy true))).map (·.hostProg) = some [] ∧
      (nextOf (step (issue (burstAt 4 0 0 0 0) .waitRdy true))).map (·.hostProg) = some [.waitRdy] := by decide

/-- A state at the end whose last request is not forgotten yet, with a reset scheduled after the next step. -/
theorem test_witness_QuiescentStateStays :
    let s := { idleWith 4 0 0 with trigPrev := true, rstSched := [false, true] }
    s.AtEnd ∧ s.nextRst = false ∧ s.CounterOk :=
  ⟨atEnd_iff.2 ⟨rfl, rfl⟩, rfl, rfl⟩

/-- A program of one `NOP` in a run that starts with a reset: its `NOP` is an operation to be issued, so the run is quiescent
after one step and not before; a step later it still is at the end. -/
theorem test_witness_QuiescenceIsFinal :
    let s := { State.reset with hostProg := [hostNop], rstSched := [true] }
    ∃ t, s.Quiescent 1 t ∧ t.NoReset ∧ t.Reaches 0 t ∧ ∃ u, t.Reaches 1 u := by
  refine ⟨_, ⟨rfl, reaches_succ.2 ⟨_, rfl, reaches_zero.2 rfl⟩, atEnd_iff.2 ⟨rfl, rfl⟩, ?_⟩,
    by unfold State.NoReset; decide, reaches_zero.2 rfl, _, reaches_succ.2 ⟨_, rfl, reaches_zero.2 rfl⟩⟩
  intro k u hk h hu
  rw [show k = 0 by omega, reaches_zero] at h
  rw [h] at hu
  exact absurd hu.issued (by decide)

/-- The third word of a burst, two words written. -/
def inBurst : State :=
  { burstAt 4 0x1000 0 2 5 with
    stepNo := 7
    writeLog := [⟨5, 0x400, 5⟩, ⟨6, 0x401, 5⟩]
    mem := [(0x1000, 0), (0x1001, 0), (0x1002, 0), (0x1003, 5), (0x1004, 0), (0x1005, 0), (0x1006, 0), (0x1007, 5)]
    hostProg := [hostNop, hostNop]
    busSched := [true, true] }

theorem inBurst_target : inBurst.TargetOk := ⟨by decide, by decide⟩

theorem test_witness_StepKeepsInvariant : inBurst.Inv ∧ ∃ t, step inBurst = .next t :=
  ⟨⟨defaults_ok, by constructor <;> decide, .inl (by decide), inBurst_target, by decide, by decide⟩, _, rfl⟩

/-- Idle and active states of a run from launch. -/
theorem test_witness_LaunchedRunsStayInRange :
    let s := { State.reset with hostProg := [hostCsrw .burstSize 1, hostStart], busSched := [true, true] }
    s.LaunchAfterReset ∧ s.cfg.Ok ∧ s.cfg.zeroBurst ≠ .wrap ∧ (∃ t, s.Reaches 1 t ∧ t.currentState = .idle) ∧
      ∃ t, s.Reaches 2 t ∧ t.currentState = .active :=
  ⟨rfl, defaults_ok, by decide, ⟨_, reaches_succ.2 ⟨_, rfl, reaches_zero.2 rfl⟩, by decide⟩,
    _, reaches_succ.2 ⟨_, rfl, reaches_succ.2 ⟨_, rfl, reaches_zero.2 rfl⟩⟩, by decide⟩

/-- A burst of two words: at its start and after a word (first clause), and its last acceptance (second clause). -/
theorem test_witness_BurstTheorem :
    let s := { idleWith 2 0x1000 0 with hostProg := [hostStart, hostNop, hostNop], busSched := [false, true, true] }
    s.cfg.Ok ∧ s.WidthsOk ∧ s.NoReset ∧ s.currentState = .idle ∧ s.pulsing = true ∧ s.burstSize ≠ 0 ∧
      ∃ s₁, step s = .next s₁ ∧ s₁.acceptCount 0 < s.burstSize ∧ s₁.acceptCount 1 < s.burstSize ∧
        ∃ t, s₁.Reaches 1 t ∧ s₁.acceptCount 1 + 1 = s.burstSize ∧ t.accepting = true :=
  ⟨defaults_ok, by constructor <;> decide, by unfold State.NoReset; decide, rfl, by decide, by decide, _, rfl,
    by decide, by decide, _, reaches_succ.2 ⟨_, rfl, reaches_zero.2 rfl⟩, by decide, by decide⟩

/-- An idle state with no host operation and no reset left stays idle. -/
theorem idle_stays {s t : State} (n : Nat) (hs : s.currentState = .idle) (hp : s.hostProg = []) (hr : s.rstSched = [])
    (h : s.Reaches n t) : t.currentState = .idle := by
  induction n generalizing s with
  | zero => rw [reaches_zero.1 h, hs]
  | succ n ih =>
    obtain ⟨u, hu, h⟩ := reaches_succ.1 h
    have hop : s.nextOp = hostNop := by unfold State.nextOp; rw [hp]
    have hi : hostInstr s.cfg s.nextOp = .nop 0 := hostInstr_of_ok (by rw [hop]; rfl)
    have hpulse : s.pulsing = false := by
      rw [State.pulsing, hi]
      unfold triggerPulse
      split <;> rfl
    have hrst : s.nextRst = false := by unfold State.nextRst; rw [hr]
    have hcase := step_of_case (.idleHold hrst hs hpulse)
    cases hu.symm.trans hcase
    refine ih rfl ?_ ?_ h
    · show s.hostRest = []
      unfold State.hostRest
      rw [hp]
    · show s.rstSched.tail = []
      rw [hr]
      rfl

/-- The last word of a burst, which the schedule lets the bus accept. -/
theorem test_witness_FairBusEndsBurst :
    let s := { burstAt 1 0 0 0 0 with busSched := [true] }
    s.WidthsOk ∧ s.CounterOk ∧ s.NoReset ∧ s.currentState = .active ∧ s.BusFair := by
  refine ⟨by constructor <;> decide, .inl (by decide), by unfold State.NoReset; decide, rfl, ?_⟩
  intro n t h ha
  cases n with
  | zero => exact ⟨0, _, le_refl 0, reaches_zero.2 rfl, rfl⟩
  | succ n =>
    exfalso
    obtain ⟨u, hu, h⟩ := reaches_succ.1 h
    have hcase := step_of_case (.complete (s := { burstAt 1 0 0 0 0 with busSched := [true] }) rfl rfl rfl (by decide))
    cases hu.symm.trans hcase
    rw [idle_stays n rfl rfl rfl h] at ha
    cases ha

/-- Two words with one rejection before the terminal acceptance; and the two words of a burst of latched size 0 whose
counter has one bit. -/
theorem test_witness_BurstStepCount :
    let s := { burstAt 2 0x1000 0 0 3 with busSched := [true, false] ++ true :: [] }
    let w := { s with latSize := 0, cfg := { Config.defaults with zeroBurst := .wrap, burstSizeW := 1 } }
    (s.WidthsOk ∧ s.NoReset ∧ s.currentState = .active ∧ s.wordsWritten = 0 ∧
        [true, false].count true + 1 = s.burstLength) ∧
      w.WidthsOk ∧ w.NoReset ∧ w.currentState = .active ∧ w.wordsWritten = 0 ∧
        [true, false].count true + 1 = w.burstLength :=
  ⟨⟨by constructor <;> decide, by unfold State.NoReset; decide, rfl, rfl, by decide⟩,
    by constructor <;> decide, by unfold State.NoReset; decide, rfl, rfl, by decide⟩

/-- Every write is visible in the step after it. -/
theorem test_witness_VisibleTargetIsMemory :
    inBurst.TargetOk ∧ (∀ e ∈ inBurst.writeLog, e.step + 1 ≤ inBurst.stepNo) ∧
      seenByte (fun e => e.step + 1) inBurst.cfg inBurst.writeLog inBurst.stepNo 0x1007 = some 5 ∧
      seenByte (fun e => e.step + 1) inBurst.cfg inBurst.writeLog inBurst.stepNo 0x1008 = none :=
  ⟨inBurst_target, by decide, by decide, by decide⟩

end Sys2Proof.Tests
end

section
/-! The invariant of the machine along a step (00_scope.md R8, 10_state.md R39, 42_bus_interface.md R179, R180): each
of its parts is followed through the updates a step is made of, and `step_eq_next_iff` puts the parts together. -/

namespace Sys2Proof.Machine

/-! ### Widths -/

theorem State.WidthsOk.present {s : State} (h : s.WidthsOk) : s.present.WidthsOk := { h with }

theorem State.WidthsOk.refuse {s : State} (h : s.WidthsOk) (r : RefuseReason) : (s.refuse r).WidthsOk := { h with }

theorem State.WidthsOk.markBadKey {s : State} (h : s.WidthsOk) (op : HostOp) : (s.markBadKey op).WidthsOk := by
  unfold State.markBadKey
  split
  · exact h
  · exact h.refuse _

/-- A write to a configuration register stores its data word cut to the register's width (40_csr_access.md R102). -/
theorem State.WidthsOk.afterHost {s : State} (h : s.WidthsOk) (i : Instr) : (s.afterHost i).WidthsOk := by
  cases i with
  | csrwBurstSize => exact { h with burst_size := trunc_lt _ _ }
  | csrwBaseAddress => exact { h with base_address := trunc_lt _ _ }
  | csrwAddressOffset => exact { h with address_offset := trunc_lt _ _ }
  | _ => exact { h with }

theorem State.WidthsOk.mid {s : State} (h : s.WidthsOk) : s.mid.WidthsOk :=
  (h.present.markBadKey s.nextOp).afterHost _

theorem State.WidthsOk.advanceFrom {s : State} (h : s.WidthsOk) (u : State) : (s.advanceFrom u).WidthsOk := { h with }

theorem State.WidthsOk.enterIdle {s : State} (h : s.WidthsOk) : s.enterIdle.WidthsOk :=
  { h with words_written := Nat.two_pow_pos _ }

theorem State.WidthsOk.bumpPass {s : State} (h : s.WidthsOk) : s.bumpPass.WidthsOk :=
  { h with pass_count := Nat.mod_lt _ (Nat.two_pow_pos _) }

theorem State.WidthsOk.acceptWrite {s : State} (h : s.WidthsOk) : s.acceptWrite.WidthsOk := { h with }

theorem State.WidthsOk.countWord {s : State} (h : s.WidthsOk) (hw : s.wordsWritten + 1 < 2 ^ s.cfg.burstSizeW) :
    s.countWord.WidthsOk :=
  { h with words_written := hw }

theorem State.WidthsOk.latchBurst {s : State} (h : s.WidthsOk) {size : Nat} (hn : size < 2 ^ s.cfg.burstSizeW) :
    (s.latchBurst size).WidthsOk :=
  { h with
    words_written := Nat.two_pow_pos _
    lat_size := hn
    lat_base := h.base_address
    lat_offset := h.address_offset }

/-- The latched size 1 of `AS_ONE` fits since `burst_size` has a bit (41_engine_fsm.md R153). -/
theorem State.WidthsOk.startFrom {s : State} (h : s.WidthsOk) (hp : s.cfg.Ok) : (startFrom s).WidthsOk := by
  unfold Machine.startFrom
  split
  · unfold zeroBurstStart
    split
    · exact h.enterIdle.refuse _
    · exact h.enterIdle
    · exact h.enterIdle.bumpPass
    · exact h.latchBurst (Nat.one_lt_two_pow (Nat.one_le_iff_ne_zero.1 hp.burst_pos))
    · exact h.latchBurst (Nat.two_pow_pos _)
  · exact h.latchBurst h.burst_size

theorem State.resetEvent_widthsOk (s : State) : s.resetEvent.WidthsOk := by
  constructor <;> exact Nat.two_pow_pos _

/-! ### The position of a burst -/

theorem counterOk_of_idle {s : State} (hs : s.currentState = .idle) (hw : s.wordsWritten = 0) : s.CounterOk := by
  unfold State.CounterOk
  rw [hs]
  exact hw

/-- The range of R39 said by the length of the burst, for every policy. -/
theorem counterOk_iff_of_active {s : State} (h : s.currentState = .active) :
    s.CounterOk ↔ s.wordsWritten < s.burstLength ∧ (s.latSize = 0 → s.cfg.zeroBurst = .wrap) := by
  have hpos := Nat.two_pow_pos s.cfg.burstSizeW
  unfold State.CounterOk State.burstLength
  rw [h]
  dsimp only
  by_cases h0 : s.latSize = 0
  · rw [if_pos h0]
    constructor
    · rintro (⟨h1, -⟩ | ⟨hz, -, hw⟩)
      · omega
      · exact ⟨by omega, fun _ => hz⟩
    · rintro ⟨hw, hz⟩
      exact .inr ⟨hz h0, h0, by omega⟩
  · rw [if_neg h0]
    constructor
    · rintro (⟨h1, hw⟩ | ⟨-, hz, -⟩)
      · exact ⟨by omega, fun hz => absurd hz h0⟩
      · exact absurd hz h0
    · rintro ⟨hw, -⟩
      exact .inl ⟨by omega, by omega⟩

/-- A running burst stays in range while its latched size stays and its counter is below the length. -/
theorem counterOk_of_same_burst {s t : State} (hc : s.CounterOk) (hs : s.currentState = .active)
    (ht : t.currentState = .active) (hcfg : t.cfg = s.cfg) (hlat : t.latSize = s.latSize)
    (hlt : t.wordsWritten < s.burstLength) : t.CounterOk := by
  obtain ⟨-, hz⟩ := (counterOk_iff_of_active hs).1 hc
  have hlen : t.burstLength = s.burstLength := by rw [State.burstLength, hlat, hcfg, State.burstLength]
  exact (counterOk_iff_of_active ht).2 ⟨hlen ▸ hlt, hcfg ▸ hlat ▸ hz⟩

/-- The counter of a burst that has a word left after this one. -/
theorem succ_lt_burstLength {s : State} (hw : s.WidthsOk) (hc : s.CounterOk) (hs : s.currentState = .active)
    (hl : s.last = false) : s.wordsWritten + 1 < s.burstLength := by
  obtain ⟨hlt, -⟩ := (counterOk_iff_of_active hs).1 hc
  have hne : s.wordsWritten + 1 ≠ s.burstLength := fun h => by
    rw [(last_iff_burstLength hw.lat_size).2 h] at hl
    cases hl
  omega

theorem burstLength_le {s : State} (hw : s.WidthsOk) : s.burstLength ≤ 2 ^ s.cfg.burstSizeW := by
  unfold State.burstLength
  split
  · exact le_refl _
  · exact hw.lat_size.le

theorem latchBurst_counterOk {s : State} {size : Nat} (h : size = 0 → s.cfg.zeroBurst = .wrap) :
    (s.latchBurst size).CounterOk :=
  (counterOk_iff_of_active rfl).2 ⟨burstLength_pos _, h⟩

theorem startFrom_counterOk (s : State) : (startFrom s).CounterOk := by
  unfold startFrom
  split
  · unfold zeroBurstStart
    split
    · exact counterOk_of_idle rfl rfl
    · exact counterOk_of_idle rfl rfl
    · exact counterOk_of_idle rfl rfl
    · exact latchBurst_counterOk (fun h => absurd h one_ne_zero)
    · next hz => exact latchBurst_counterOk (fun _ => hz)
  · next h0 => exact latchBurst_counterOk (fun h => absurd h h0)

/-! ### What a step does to the registers, to the log and to the target -/

theorem step_keeps_widths {s t : State} (hp : s.cfg.Ok) (hw : s.WidthsOk) (hc : s.CounterOk) (h : StepCase s t) :
    t.WidthsOk := by
  cases h with
  | reset => exact s.resetEvent_widthsOk.advanceFrom s
  | idleHold => exact hw.mid.enterIdle.advanceFrom s
  | idleStart => exact (hw.mid.startFrom (s.mid_cfg ▸ hp)).advanceFrom s
  | advance _ hs _ hl =>
    have hlt := (succ_lt_burstLength hw hc hs hl).trans_le (burstLength_le hw)
    exact (hw.mid.acceptWrite.countWord (by simpa using hlt)).advanceFrom s
  | complete => exact hw.mid.acceptWrite.bumpPass.enterIdle.advanceFrom s
  | stall => exact hw.mid.advanceFrom s

theorem step_keeps_counter {s t : State} (hw : s.WidthsOk) (hc : s.CounterOk) (h : StepCase s t) : t.CounterOk := by
  cases h with
  | reset => exact counterOk_of_idle rfl rfl
  | idleHold => exact counterOk_of_idle rfl rfl
  | idleStart => exact startFrom_counterOk s.mid
  | advance _ hs _ hl =>
    have hlt := succ_lt_burstLength hw hc hs hl
    exact counterOk_of_same_burst hc hs (by simpa using hs) (by simp) (by simp) (by simpa using hlt)
  | complete => exact counterOk_of_idle rfl rfl
  | stall _ hs =>
    obtain ⟨hlt, -⟩ := (counterOk_iff_of_active hs).1 hc
    exact counterOk_of_same_burst hc hs (by simpa using hs) (by simp) (by simp) (by simpa using hlt)

/-- A step leaves the log and the target as they are, or it accepts the offer of its start: one entry of this step, and
its word at the target (42_bus_interface.md R179, R180). -/
theorem step_target {s t : State} (h : StepCase s t) :
    (t.writeLog = s.writeLog ∧ t.mem = s.mem) ∨
      (t.writeLog = s.writeLog ++ [⟨s.stepNo, s.wordAddr, s.payload⟩] ∧
        t.mem = s.mem.writeWord s.cfg s.wordAddr s.payload) := by
  cases h with
  | reset => exact .inl ⟨rfl, rfl⟩
  | idleHold => exact .inl ⟨s.mid_writeLog, s.mid_mem⟩
  | idleStart =>
    obtain ⟨-, -, -, -, -, -, hlog, hmem, -⟩ := startFrom_fields s.mid
    exact .inl ⟨hlog.trans s.mid_writeLog, hmem.trans s.mid_mem⟩
  | advance => exact .inr (by simp)
  | complete => exact .inr (by simp)
  | stall => exact .inl ⟨s.mid_writeLog, s.mid_mem⟩

theorem step_keeps_target {s t : State} (ht : s.TargetOk) (hcfg : t.cfg = s.cfg) (h : StepCase s t) : t.TargetOk := by
  obtain ⟨hwf, hmem⟩ := ht
  unfold State.TargetOk
  rw [hcfg]
  rcases step_target h with ⟨hl, hm⟩ | ⟨hl, hm⟩ <;> rw [hl, hm]
  · exact ⟨hwf, hmem⟩
  · exact ⟨Memory.writeWord_wf hwf _ _ _, by rw [replay_append, ← hmem]⟩

theorem step_keeps_log {s t : State} (hlog : s.LogOk) (hno : t.stepNo = s.stepNo + 1) (h : StepCase s t) :
    t.LogOk := by
  obtain ⟨hord, hpast⟩ := hlog
  unfold State.LogOk
  rw [hno]
  rcases step_target h with ⟨hl, -⟩ | ⟨hl, -⟩ <;> rw [hl]
  · exact ⟨hord, fun e he => Nat.lt_succ_of_lt (hpast e he)⟩
  · simp only [List.pairwise_append, List.mem_append, List.mem_singleton]
    refine ⟨⟨hord, List.pairwise_singleton _ _, ?_⟩, ?_⟩
    · rintro e he _ rfl
      exact hpast e he
    · rintro e (he | rfl)
      · exact Nat.lt_succ_of_lt (hpast e he)
      · exact Nat.lt_succ_self _

/-- Settles O55: each part of the invariant is kept in each of the six cases of a step. -/
theorem stepKeepsInvariant : Obligations.StepKeepsInvariant := by
  intro s t hi hstep
  obtain ⟨hp, hw, hc, ht, hlog⟩ := hi
  obtain ⟨hcfg, hno, -⟩ := step_inputs hstep
  have h := step_eq_next_iff.1 hstep
  exact ⟨hcfg ▸ hp, step_keeps_widths hp hw hc h, step_keeps_counter hw hc h, step_keeps_target ht hcfg h,
    step_keeps_log hlog hno h⟩

end Sys2Proof.Machine
end

section
/-! The register bank at the host's bus (10_state.md R27, 30_encoding.md R81, R82): the fields of the key of a
transaction, and what that key decodes to. -/

namespace Sys2Proof.Machine

/-- The bits of a key, field by field from the lowest (R81). -/
theorem getLsbD_csrKey (we : Bool) (off : BitVec 8) (k : Nat) :
    (csrKey we off).getLsbD k =
      if k < 8 then off.getLsbD k
      else if k - 8 < 7 then false
      else if k - 8 - 7 < 1 then (BitVec.ofBool we).getLsbD (k - 8 - 7)
      else (1#1).getLsbD (k - 8 - 7 - 1) := by
  rw [csrKey, BitVec.getLsbD_cast, BitVec.getLsbD_append, BitVec.getLsbD_append, BitVec.getLsbD_append,
    BitVec.getLsbD_zero]

@[simp] theorem csrKey_valid (we : Bool) (off : BitVec 8) : (csrKey we off).valid = true := getLsbD_csrKey we off 16

@[simp] theorem csrKey_we (we : Bool) (off : BitVec 8) : (csrKey we off).we = we := by
  rw [CsrKey.we, getLsbD_csrKey]
  cases we <;> rfl

@[simp] theorem csrKey_rsv (we : Bool) (off : BitVec 8) : (csrKey we off).rsv = 0 := by
  refine BitVec.eq_of_getLsbD_eq fun k hk => ?_
  simp [CsrKey.rsv, getLsbD_csrKey, hk]

@[simp] theorem csrKey_offset (we : Bool) (off : BitVec 8) : (csrKey we off).offset = off := by
  refine BitVec.eq_of_getLsbD_eq fun k hk => ?_
  simp [CsrKey.offset, getLsbD_csrKey, hk]

/-- A transaction on a register is that register's write or read, where it has one (R82, R88 (c)). -/
theorem decodeCsr_csrKey_iff {p : Params} {we : Bool} {r : CsrReg} {wdata : Nat} {i : Instr} :
    decodeCsr p (csrKey we r.offset) wdata = .ok i ↔
      (if we then decodeWrite (trunc p.csrDataW wdata) r else decodeRead r) = some i := by
  have hv : decodeValid (csrKey we r.offset) (trunc p.csrDataW wdata) =
      if we then decodeWrite (trunc p.csrDataW wdata) r else decodeRead r := by
    simp [decodeValid, regAtOffset_offset]
  rw [← hv, decodeCsr, if_pos (csrKey_valid we r.offset)]
  split
  · next h => simp [h]
  · next h => simp [h]

/-- All six registers can be read (R82). -/
theorem exists_decodeRead (r : CsrReg) : ∃ i, decodeRead r = some i := by
  cases r <;> exact ⟨_, rfl⟩

/-- `ready` and `pass_count` are the registers that cannot be written (40_csr_access.md R120). -/
theorem exists_decodeWrite_iff {wdata : Nat} {r : CsrReg} :
    (∃ i, decodeWrite wdata r = some i) ↔ r ≠ .ready ∧ r ≠ .passCount := by
  cases r <;> simp [decodeWrite]

/-- Settles O8: offsets and widths are those of the table, and a key on a register decodes to its read or write. -/
theorem registerMap : Obligations.RegisterMap := by
  intro p wdata r
  refine ⟨?_, ?_, ?_⟩
  · cases r <;> rfl
  · obtain ⟨i, hi⟩ := exists_decodeRead r
    exact ⟨i, decodeCsr_csrKey_iff.2 hi⟩
  · exact (exists_congr fun _ => decodeCsr_csrKey_iff).trans exists_decodeWrite_iff

end Sys2Proof.Machine
end

section
/-! Who writes what (10_state.md R38): the operations split by the format of their encoding, and each side of the
split keeps the fields of the other. -/

namespace Sys2Proof.Machine

theorem hostSide_of_encode_csr {i : Instr} {key : CsrKey} {wdata : Nat} (h : encode i = .csr key wdata) :
    hostSide i = true := by
  cases i with
  | idleHold | idleStart | activeAdvance | activeComplete | activeStall => cases h
  | _ => rfl

theorem hostSide_of_encode_fsm {i : Instr} {key : FsmKey} (h : encode i = .fsm key) : hostSide i = false := by
  cases i with
  | idleHold | idleStart | activeAdvance | activeComplete | activeStall => rfl
  | _ => cases h

/-- A transition writes no register of the host, not `trig_prev`, and returns no `RDATA`. -/
theorem exec_transition_frame {i : Instr} {s t : State} (hi : hostSide i = false) (h : exec i s = .next t) :
    t.burstSize = s.burstSize ∧ t.baseAddress = s.baseAddress ∧ t.addressOffset = s.addressOffset ∧
      t.trigPrev = s.trigPrev ∧ t.rdata = s.rdata := by
  cases i with
  | idleStart =>
    obtain ⟨-, -, hsize, hbase, hoff, hprev, -, -, hrdata, -⟩ := startFrom_fields s
    cases h
    exact ⟨hsize, hbase, hoff, hprev, hrdata⟩
  | idleHold | activeAdvance | activeComplete | activeStall => cases h; exact ⟨rfl, rfl, rfl, rfl, rfl⟩
  | _ => cases hi

/-- Settles O44: the host's half is `State.afterHost`, which updates no engine field; a transition keeps the host's. -/
theorem ownershipPartitioned : Obligations.OwnershipPartitioned := by
  intro i s t h
  constructor
  · intro key wdata he
    cases (exec_host (hostSide_of_encode_csr he) s).symm.trans h
    exact ⟨rfl, rfl, rfl, rfl, rfl, rfl, rfl, rfl, rfl⟩
  · intro key he
    exact exec_transition_frame (hostSide_of_encode_fsm he) h

end Sys2Proof.Machine
end

section
/-! The engine's fields along a step (10_state.md R24, R25, R34): each rule is read off the six cases of a step. -/

namespace Sys2Proof.Machine

/-- Settles O41: only an acceptance that is not the terminal one moves `words_written` on. -/
theorem wordsWrittenRule : Obligations.WordsWrittenRule := by
  intro s t h
  cases step_eq_next_iff.1 h with
  | reset hr => simp [hr]
  | idleHold hr hs => simp [hs]
  | idleStart hr hs =>
    obtain ⟨-, hcount, -⟩ := startFrom_fields s.mid
    simp [hs, hcount]
  | advance hr hs ha hl => simp [hr, hs, hl, accepting_of_active hs hr, ha]
  | complete hr hs ha hl => simp [hl, accepting_of_active hs hr, ha]
  | stall hr hs ha => simp [hr, hs, accepting_of_active hs hr, ha]

/-- A pulse starts from the configuration that the registers held at the start of the step. -/
theorem mid_config_of_pulsing {s : State} (h : s.pulsing = true) :
    s.mid.burstSize = s.burstSize ∧ s.mid.baseAddress = s.baseAddress ∧ s.mid.addressOffset = s.addressOffset :=
  State.mid_config_of_level (State.level_of_pulsing h)

/-- Settles O42: `pass_count` moves on with the terminal acceptance, and with a zero-size pulse under `SKIP_COUNT`. -/
theorem passCountRule : Obligations.PassCountRule := by
  intro s t h
  cases step_eq_next_iff.1 h with
  | reset hr => simp [hr]
  | idleHold hr hs hp => simp [hr, hp, accepting_of_idle hs]
  | idleStart hr hs hp =>
    obtain ⟨hsize, -⟩ := mid_config_of_pulsing hp
    simp [hr, hs, hp, accepting_of_idle hs, startFrom_passCount, hsize]
  | advance hr hs ha hl => simp [hr, hs, hl]
  | complete hr hs ha hl => simp [hr, hl, accepting_of_active hs hr, ha]
  | stall hr hs ha => simp [hr, hs, accepting_of_active hs hr, ha]

/-- A pulse in idle either starts a burst, which loads the latched copies, or leaves the engine idle and the copies as
they are (41_engine_fsm.md R146, R153). -/
theorem startFrom_latched (s : State) :
    ((startFrom s).currentState = .active ∧ (s.burstSize ≠ 0 → (startFrom s).latSize = s.burstSize) ∧
        (startFrom s).latBase = s.baseAddress ∧ (startFrom s).latOffset = s.addressOffset) ∨
      ((startFrom s).currentState = .idle ∧ (startFrom s).latSize = s.latSize ∧
        (startFrom s).latBase = s.latBase ∧ (startFrom s).latOffset = s.latOffset) := by
  by_cases h0 : s.burstSize = 0
  · unfold startFrom
    rw [if_pos h0]
    unfold zeroBurstStart
    split
    case h_1 | h_2 | h_3 => exact .inr ⟨rfl, rfl, rfl, rfl⟩
    case h_4 | h_5 => exact .inl ⟨rfl, absurd h0, rfl, rfl⟩
  · rw [startFrom_of_size h0]
    exact .inl ⟨rfl, fun _ => rfl, rfl, rfl⟩

/-- Settles O43: of the five cases without reset, only a pulse in idle can load the latched copies. -/
theorem latchedCopiesRule : Obligations.LatchedCopiesRule := by
  intro s t hr h
  cases step_eq_next_iff.1 h with
  | reset hr' => simp [hr] at hr'
  | idleHold => simp
  | idleStart _ hs hp =>
    obtain ⟨hsize, hbase, hoff⟩ := mid_config_of_pulsing hp
    have hstart := startFrom_latched s.mid
    rw [hsize, hbase, hoff] at hstart
    obtain ⟨ha, hload⟩ | ⟨hi, hkeep⟩ := hstart
    · simpa [hs, ha] using hload
    · simpa [hi] using hkeep
  | advance _ hs => simp [hs]
  | complete => simp
  | stall _ hs => simp [hs]

end Sys2Proof.Machine
end

section
/-! Runs from launch (70_reset_and_hazards.md R232): what every step keeps holds in every state of a run, and the
invariant of the machine gives the range of 10_state.md R39. -/

namespace Sys2Proof.Machine

/-- What every step keeps, every run keeps. -/
theorem reaches_keeps {P : State → Prop} (hstep : ∀ s t, P s → step s = .next t → P t) {s t : State} {n : Nat}
    (hs : P s) (h : s.Reaches n t) : P t := by
  induction n generalizing s with
  | zero => exact reaches_zero.1 h ▸ hs
  | succ n ih =>
    obtain ⟨u, hu, h⟩ := reaches_succ.1 h
    exact ih (hstep s u hs hu) h

theorem inv_of_reaches {s t : State} {n : Nat} (hs : s.Inv) (h : s.Reaches n t) : t.Inv :=
  reaches_keeps stepKeepsInvariant hs h

/-- No step changes the configuration (log entry 1). -/
theorem cfg_of_reaches {s t : State} {n : Nat} (h : s.Reaches n t) : t.cfg = s.cfg :=
  reaches_keeps (P := fun u => u.cfg = s.cfg) (fun _ _ hu hstep => (step_inputs hstep).1.trans hu) rfl h

/-- A launch meets the invariant in every configuration: all registers, the log and the target are empty. -/
theorem inv_of_launch {s : State} (h : s.LaunchAfterReset) (hp : s.cfg.Ok) : s.Inv := by
  unfold State.LaunchAfterReset at h
  refine ⟨hp, ?_, ?_, ?_, ?_⟩ <;> rw [h]
  · constructor <;> exact Nat.two_pow_pos _
  · exact counterOk_of_idle rfl rfl
  · exact ⟨.nil, rfl⟩
  · exact ⟨.nil, fun _ he => nomatch he⟩

/-- Settles O56: the invariant holds along the run, and its clause for the latched size 0 is `WRAP`'s alone. -/
theorem launchedRunsStayInRange : Obligations.LaunchedRunsStayInRange := by
  intro s t n hlaunch hp hz hrun
  have hc := (inv_of_reaches (inv_of_launch hlaunch hp) hrun).counter
  rw [← cfg_of_reaches hrun] at hz
  unfold State.CounterOk at hc
  constructor
  · intro hs
    rwa [hs] at hc
  · intro hs
    rw [hs] at hc
    obtain hrange | ⟨hwrap, -⟩ := hc
    · exact hrange
    · exact absurd hwrap hz

end Sys2Proof.Machine
end

section
/-! A step in the middle of a burst (20_memory.md R64, 70_reset_and_hazards.md R241): it is the host's half and then a
transition that reads no configuration register, so a configuration write comes through it as it is. -/

namespace Sys2Proof.Machine

/-- The engine's half of an active step, by the bus's answer and the terminal test (41_engine_fsm.md R147 to R149). -/
def State.afterActive (s : State) (acc last : Bool) : State :=
  match acc, last with
  | true, false => s.acceptWrite.countWord
  | true, true => s.acceptWrite.bumpPass.enterIdle
  | false, _ => s

/-- The three rows of an active key (30_encoding.md R84). -/
theorem exec_rowOfBits_active (trg acc last : Bool) (s : State) :
    exec (rowOfBits true trg acc last) s = .next (s.afterActive acc last) := by
  cases acc with
  | false => rfl
  | true => cases last <;> rfl

/-- An active step whose transaction decodes: the host's half, then the engine's. -/
theorem globalStep_of_active {s : State} {op : HostOp} {i : Instr} (hs : s.currentState = .active)
    (hi : decodeCsr s.cfg op.key op.wdata = .ok i) (acc : Bool) :
    globalStep s op false acc = .next ((s.present.afterHost i).afterActive acc s.last) := by
  rw [globalStep, if_neg Bool.false_ne_true, exec_host (hostSide_hostInstr _ _), hostInstr_of_ok hi,
    markBadKey_of_ok (s := s.present) hi, decodeFsm_engineKey, wrValid_of_active hs]
  exact exec_rowOfBits_active _ _ _ _

/-- A configuration register at a new value (10_state.md R30 to R32); the other registers hold no configuration. -/
def State.setConfig (s : State) (r : CsrReg) (v : Nat) : State :=
  match r with
  | .burstSize => s.setBurstSize v
  | .baseAddress => s.setBaseAddress v
  | .addressOffset => s.setAddressOffset v
  | _ => s

/-- The engine's half of an active step neither reads nor writes the configuration. -/
theorem State.afterActive_setConfig (s : State) (r : CsrReg) (v : Nat) (acc last : Bool) :
    (s.setConfig r v).afterActive acc last = (s.afterActive acc last).setConfig r v := by
  cases r with
  | burstSize | baseAddress | addressOffset => cases acc <;> cases last <;> rfl
  | _ => rfl

/-- The host's half of a write that is no trigger is that of `NOP` but for its register (40_csr_access.md R112, R114,
R116). -/
theorem State.afterHost_of_decodeWrite {r : CsrReg} {wdata : Nat} {i : Instr} (hr : r ≠ .startTrigger)
    (hi : decodeWrite wdata r = some i) (s : State) :
    s.afterHost i = (s.afterHost (.nop 0)).setConfig r (writeValue s.cfg r wdata) := by
  cases r with
  | startTrigger => exact absurd rfl hr
  | burstSize | baseAddress | addressOffset => cases hi; rfl
  | ready | passCount => cases hi

/-- Every register fits a transfer (20_memory.md R53). -/
theorem csrWidth_le {p : Params} (hp : p.Ok) (r : CsrReg) : csrWidth p r ≤ p.csrDataW := by
  cases r with
  | startTrigger => exact hp.burst_pos.trans hp.burst_fits
  | ready => exact hp.ready_fits
  | burstSize => exact hp.burst_fits
  | baseAddress | addressOffset => exact hp.addr_fits
  | passCount => exact hp.pass_fits

/-- An active step with a write that is no trigger is the step with `NOP` but for the register. -/
theorem globalStep_csrw_of_active {s : State} {r : CsrReg} (hp : s.cfg.Ok) (hs : s.currentState = .active)
    (hr : r ≠ .startTrigger) {wdata : Nat} (hw : ∃ i, decodeWrite (trunc s.cfg.csrDataW wdata) r = some i)
    (acc : Bool) :
    globalStep s (hostCsrw r wdata) false acc =
      .next (((s.present.afterHost (.nop 0)).afterActive acc s.last).setConfig r (writeValue s.cfg r wdata)) := by
  obtain ⟨i, hi⟩ := hw
  have hval : writeValue s.cfg r (trunc s.cfg.csrDataW wdata) = writeValue s.cfg r wdata :=
    trunc_trunc (csrWidth_le hp r) wdata
  have hkey : decodeCsr s.cfg (hostCsrw r wdata).key (hostCsrw r wdata).wdata = .ok i := decodeCsr_csrKey_iff.2 hi
  rw [globalStep_of_active hs hkey, State.afterHost_of_decodeWrite hr hi, State.present_cfg,
    hval, State.afterActive_setConfig]

/-- Settles O38: each write is the step with `NOP` but for its register, which gets the data word cut to its width. -/
theorem midBurstConfigurationHarmless : Obligations.MidBurstConfigurationHarmless := by
  intro s wdata acc hp hs
  refine ⟨_, globalStep_of_active hs (decodeCsr_of_invalid rfl _ _) acc, ?_, ?_, ?_⟩
  · exact globalStep_csrw_of_active (r := .burstSize) hp hs nofun ⟨_, rfl⟩ acc
  · exact globalStep_csrw_of_active (r := .baseAddress) hp hs nofun ⟨_, rfl⟩ acc
  · exact globalStep_csrw_of_active (r := .addressOffset) hp hs nofun ⟨_, rfl⟩ acc

end Sys2Proof.Machine
end

section
/-! The encoder and the decoder are each other's inverse (30_encoding.md R81 to R84): an operation of the host has the
key of a transaction on its register, a transition the key of its four bits. -/

namespace Sys2Proof.Machine

/-! ### Transactions -/

/-- The literal key of a write is that of a transaction on its register (R81, R82). -/
theorem encode_of_decodeWrite {wdata : Nat} {r : CsrReg} {i : Instr} (h : decodeWrite wdata r = some i) :
    encode i = .csr (csrKey true r.offset) wdata := by
  cases r <;> cases h <;> rfl

/-- The literal key of a read is that of a transaction on its register (R81, R82). -/
theorem encode_of_decodeRead {r : CsrReg} {i : Instr} (h : decodeRead r = some i) :
    encode i = .csr (csrKey false r.offset) 0 := by
  cases r <;> cases h <;> rfl

theorem decode_encode_of_decodeWrite {p : Params} {wdata : Nat} {r : CsrReg} {i : Instr}
    (h : decodeWrite wdata r = some i) (hw : wdata < 2 ^ p.csrDataW) : decode p (encode i) = .ok i := by
  rw [encode_of_decodeWrite h]
  exact decodeCsr_csrKey_iff.2 ((congrArg (decodeWrite · r) (trunc_of_lt hw)).trans h)

theorem decode_encode_of_decodeRead (p : Params) {r : CsrReg} {i : Instr} (h : decodeRead r = some i) :
    decode p (encode i) = .ok i := by
  rw [encode_of_decodeRead h]
  exact decodeCsr_csrKey_iff.2 h

/-- A `NOP` keeps the bits that its row ignores (R81). -/
theorem decode_encode_nop (p : Params) {ignored : Nat} (h : ignored < 2 ^ 16) :
    decode p (encode (.nop ignored)) = .ok (.nop ignored) := by
  have hmod : ignored % 2 ^ 16 = ignored := Nat.mod_eq_of_lt h
  have hv : CsrKey.valid (BitVec.ofNat 17 ignored) = false := by
    rw [CsrKey.valid, BitVec.getLsbD_ofNat, Nat.testBit_lt_two_pow h, Bool.and_false]
  have hlow : ((BitVec.ofNat 17 ignored).extractLsb' 0 16).toNat = ignored := by
    rw [BitVec.extractLsb'_toNat, BitVec.toNat_ofNat]
    omega
  rw [encode, hmod, decode, decodeCsr_of_invalid hv, hlow]

/-! ### Transitions -/

/-- The pattern of a row with its free bits filled in is the key of the four bits (R83, R84). -/
theorem encode_rowOfBits (st trg acc last : Bool) :
    encode (rowOfBits st trg acc last) =
      .fsm (fsmBit st 0b1000 ||| fsmBit trg 0b0100 ||| fsmBit acc 0b0010 ||| fsmBit last 0b0001) := by
  cases st <;> cases trg <;> cases acc <;> cases last <;> rfl

theorem decode_encode_rowOfBits (p : Params) (st trg acc last : Bool) :
    decode p (encode (rowOfBits st trg acc last)) = .ok (rowOfBits st trg acc last) := by
  rw [encode_rowOfBits, decode, rowOfBits_key]

/-- Settles O1: a write or a read by the key of its register, a `NOP` by its ignored bits, a transition by the bits of
its key. -/
theorem decodeEncodeRoundTrip : Obligations.DecodeEncodeRoundTrip := by
  intro p i h
  cases i with
  | nop ignored => exact decode_encode_nop p (of_decide_eq_true h)
  | csrwStartTrigger => exact decode_encode_of_decodeWrite (r := .startTrigger) rfl (of_decide_eq_true h)
  | csrwBurstSize => exact decode_encode_of_decodeWrite (r := .burstSize) rfl (of_decide_eq_true h)
  | csrwBaseAddress => exact decode_encode_of_decodeWrite (r := .baseAddress) rfl (of_decide_eq_true h)
  | csrwAddressOffset => exact decode_encode_of_decodeWrite (r := .addressOffset) rfl (of_decide_eq_true h)
  | csrrStartTrigger => exact decode_encode_of_decodeRead p (r := .startTrigger) rfl
  | csrrReady => exact decode_encode_of_decodeRead p (r := .ready) rfl
  | csrrBurstSize => exact decode_encode_of_decodeRead p (r := .burstSize) rfl
  | csrrBaseAddress => exact decode_encode_of_decodeRead p (r := .baseAddress) rfl
  | csrrAddressOffset => exact decode_encode_of_decodeRead p (r := .addressOffset) rfl
  | csrrPassCount => exact decode_encode_of_decodeRead p (r := .passCount) rfl
  | idleHold acc last => exact decode_encode_rowOfBits p false false acc last
  | idleStart acc last => exact decode_encode_rowOfBits p false true acc last
  | activeAdvance trg => exact decode_encode_rowOfBits p true trg true false
  | activeComplete trg => exact decode_encode_rowOfBits p true trg true true
  | activeStall trg last => exact decode_encode_rowOfBits p true trg false last

/-- The operand of a decoded write is a data word, which its lines cut to their width (R81). -/
theorem wellFormed_of_decodeWrite {p : Params} {wdata : Nat} {r : CsrReg} {i : Instr} (hw : wdata < 2 ^ p.csrDataW)
    (h : decodeWrite wdata r = some i) : i.wellFormed p = true := by
  cases r <;> cases h <;> exact decide_eq_true hw

theorem wellFormed_of_decodeRead (p : Params) {r : CsrReg} {i : Instr} (h : decodeRead r = some i) :
    i.wellFormed p = true := by
  cases r <;> cases h <;> rfl

/-- A decoded key with `VALID` is that of a transaction on a register, and the operation is that register's (R81). -/
theorem decodeCsr_valid_cases {p : Params} {key : CsrKey} {wdata : Nat} {i : Instr} (hv : key.valid = true)
    (h : decodeCsr p key wdata = .ok i) :
    ∃ r, key = csrKey key.we (CsrReg.offset r) ∧
      (if key.we then decodeWrite (trunc p.csrDataW wdata) r else decodeRead r) = some i := by
  rw [decodeCsr, if_pos hv] at h
  split at h
  · next hd =>
    cases h
    obtain ⟨r, hrsv, hoff, hop⟩ := decodeValid_cases hd
    exact ⟨r, CsrKey.ext_fields (by simp [hv]) (by simp) (by simp [hrsv]) (by simp [hoff]), hop⟩
  · cases h

/-- The ignored bits of a key without `VALID` are all of the key (R81). -/
theorem encode_nop_of_invalid {key : CsrKey} (h : key.valid = false) :
    encode (.nop (key.extractLsb' 0 16).toNat) = .csr key 0 := by
  have hlt : key.toNat < 2 ^ 16 := by
    have hmsb : key.msb = false := h
    have := BitVec.msb_eq_false_iff_two_mul_lt.1 hmsb
    omega
  rw [encode, Nat.mod_eq_of_lt (BitVec.isLt _)]
  congr 1
  refine BitVec.eq_of_toNat_eq ?_
  rw [BitVec.toNat_ofNat, BitVec.extractLsb'_toNat]
  omega

/-- Settles O2: a key without `VALID` is its ignored bits, one with `VALID` that of a transaction on a register. -/
theorem encodeDecodeCsrKey : Obligations.EncodeDecodeCsrKey := by
  intro p key wdata i h
  cases hv : key.valid with
  | false =>
    rw [decodeCsr_of_invalid hv] at h
    cases h
    exact ⟨decide_eq_true (BitVec.isLt _), encode_nop_of_invalid hv⟩
  | true =>
    obtain ⟨r, hkey, hop⟩ := decodeCsr_valid_cases hv h
    cases hw : key.we with
    | false =>
      rw [hw] at hkey hop
      exact ⟨wellFormed_of_decodeRead p hop, hkey ▸ encode_of_decodeRead hop⟩
    | true =>
      rw [hw] at hkey hop
      exact ⟨wellFormed_of_decodeWrite (trunc_lt _ _) hop, hkey ▸ encode_of_decodeWrite hop⟩

end Sys2Proof.Machine
end

section
/-! Which CSR keys are refused (30_encoding.md R88): by the fields of the key, and by the rows of the opcode table. Both
meet the decoder in `decodeValid_isSome_iff`. -/

namespace Sys2Proof.Machine

/-! ### By the fields of the key -/

/-- The decoder's own form of a refusal: `VALID`, and no operation. -/
theorem decodeCsr_refused_iff {p : Params} {key : CsrKey} {wdata : Nat} :
    decodeCsr p key wdata = .error (.badCsrKey key) ↔
      key.valid = true ∧ ¬(decodeValid key (trunc p.csrDataW wdata)).isSome := by
  rw [Option.not_isSome_iff_eq_none]
  constructor
  · intro h
    obtain ⟨-, hv, hn⟩ := decodeCsr_error h
    exact ⟨hv, hn⟩
  · rintro ⟨hv, hn⟩
    rw [decodeCsr, if_pos hv, hn]

/-- A key is refused, or it gives an operation. -/
theorem decodeCsr_refused_or_ok (p : Params) (key : CsrKey) (wdata : Nat) :
    decodeCsr p key wdata = .error (.badCsrKey key) ∨ ∃ i, decodeCsr p key wdata = .ok i := by
  cases h : decodeCsr p key wdata with
  | error r =>
    obtain ⟨rfl, -⟩ := decodeCsr_error h
    exact .inl rfl
  | ok i => exact .inr ⟨i, rfl⟩

/-- The six offsets of the register map (10_state.md R27). -/
theorem exists_offset_iff {off : BitVec 8} :
    (∃ r : CsrReg, off = r.offset) ↔
      off = 0x00 ∨ off = 0x04 ∨ off = 0x08 ∨ off = 0x0C ∨ off = 0x10 ∨ off = 0x14 := by
  constructor
  · rintro ⟨r, rfl⟩
    cases r <;> decide
  · rintro (h | h | h | h | h | h)
    · exact ⟨.startTrigger, h⟩
    · exact ⟨.ready, h⟩
    · exact ⟨.burstSize, h⟩
    · exact ⟨.baseAddress, h⟩
    · exact ⟨.addressOffset, h⟩
    · exact ⟨.passCount, h⟩

/-- The registers that can be written are those at none of the two read-only offsets (40_csr_access.md R120). -/
theorem exists_decodeWrite_iff_offset {wdata : Nat} {r : CsrReg} :
    (∃ i, decodeWrite wdata r = some i) ↔ ¬(r.offset = 0x04 ∨ r.offset = 0x14) := by
  rw [exists_decodeWrite_iff]
  cases r <;> decide

/-- Which fields give a key with `VALID` an operation, whatever its data word: no reserved bit, a register's offset, and no
write to a read-only register. -/
theorem decodeValid_isSome_iff {key : CsrKey} {wdata : Nat} :
    (decodeValid key wdata).isSome ↔
      key.rsv = 0 ∧ (∃ r : CsrReg, key.offset = r.offset) ∧
        ¬(key.we = true ∧ (key.offset = 0x04 ∨ key.offset = 0x14)) := by
  rw [Option.isSome_iff_exists]
  constructor
  · rintro ⟨i, hi⟩
    obtain ⟨r, hrsv, hoff, hop⟩ := decodeValid_cases hi
    refine ⟨hrsv, ⟨r, hoff⟩, fun ⟨hw, hro⟩ => ?_⟩
    rw [if_pos hw] at hop
    rw [hoff] at hro
    exact exists_decodeWrite_iff_offset.1 ⟨i, hop⟩ hro
  · rintro ⟨hrsv, ⟨r, hoff⟩, hro⟩
    have hval : decodeValid key wdata = if key.we then decodeWrite wdata r else decodeRead r := by
      simp [decodeValid, hrsv, hoff, regAtOffset_offset]
    rw [hoff] at hro
    rw [hval]
    split
    · next hw => exact exists_decodeWrite_iff_offset.2 fun h => hro ⟨hw, h⟩
    · exact exists_decodeRead r

/-- Settles O4: the three clauses of R88 are the three ways to miss an operation. -/
theorem csrKeysRefusedExactly : Obligations.CsrKeysRefusedExactly := by
  intro p key wdata hv
  refine ⟨?_, decodeCsr_refused_or_ok p key wdata⟩
  rw [decodeCsr_refused_iff, decodeValid_isSome_iff, ← exists_offset_iff]
  tauto

/-! ### By the rows of the opcode table -/

/-- The rows that match a well-formed operation's encoding are its own and no other, in every configuration. -/
theorem rows_encode {p : Params} {i : Instr} (h : i.wellFormed p = true) : (encode i).rows = [i.mnemonic] := by
  cases i with
  | nop ignored => exact Laws.MatchesItsRow.nop ignored h
  | idleHold acc last => exact Laws.MatchesItsRow.idleHold acc last h
  | idleStart acc last => exact Laws.MatchesItsRow.idleStart acc last h
  | activeAdvance trg => exact Laws.MatchesItsRow.activeAdvance trg h
  | activeComplete trg => exact Laws.MatchesItsRow.activeComplete trg h
  | activeStall trg last => exact Laws.MatchesItsRow.activeStall trg last h
  | _ => rfl

/-- A key that decodes is the encoding of its operation, so the operation's row is the one it matches. -/
theorem rows_of_decodeCsr {p : Params} {key : CsrKey} {wdata : Nat} {i : Instr} (h : decodeCsr p key wdata = .ok i) :
    (Frame.csr key wdata).rows = [i.mnemonic] := by
  obtain ⟨hwf, he⟩ := encodeDecodeCsrKey p key wdata i h
  have hrows := rows_encode hwf
  rw [he] at hrows
  exact hrows

/-- A row that has `VALID` in its pattern names one whole key, which has an operation; every row tests `VALID`. -/
theorem csrRows_name_operations :
    ∀ row ∈ csrRows, row.mask.getLsbD 16 = true ∧
      (row.pattern.getLsbD 16 = true →
        row.mask = BitVec.allOnes 17 ∧ (decodeValid row.pattern 0).isSome = true) := by
  decide

/-- A key with `VALID` that some row matches has an operation. -/
theorem decodeValid_isSome_of_hits {row : OpcodeRow 17} {key : CsrKey} (hrow : row ∈ csrRows)
    (hv : key.valid = true) (hit : row.hits key = true) (wdata : Nat) : (decodeValid key wdata).isSome := by
  obtain ⟨hmask, hname⟩ := csrRows_name_operations row hrow
  obtain ⟨hfull, hop⟩ := hname ((OpcodeRow.bit_of_hits hit hmask).symm.trans hv)
  have hkey : key = row.pattern := by
    rw [OpcodeRow.hits, hfull, BitVec.and_allOnes] at hit
    exact beq_iff_eq.1 hit
  rw [← hkey] at hop
  exact decodeValid_isSome_iff.2 (decodeValid_isSome_iff.1 hop)

/-- Settles O5: a row that matches gives the key an operation, and an operation gives it a row that matches. -/
theorem csrKeysRefusedWhereNoRowMatches : Obligations.CsrKeysRefusedWhereNoRowMatches := by
  intro p key wdata
  refine ⟨⟨fun h => ?_, fun ⟨hv, hnone⟩ => ?_⟩, fun i => rows_of_decodeCsr⟩
  · obtain ⟨hv, hn⟩ := decodeCsr_refused_iff.1 h
    have hmiss : ∀ row ∈ csrRows, ¬row.hits key = true := fun row hrow hit =>
      hn (decodeValid_isSome_of_hits hrow hv hit _)
    exact ⟨hv, List.map_eq_nil_iff.2 (List.filter_eq_nil_iff.2 hmiss)⟩
  · refine (decodeCsr_refused_or_ok p key wdata).resolve_right fun ⟨i, hi⟩ => ?_
    rw [rows_of_decodeCsr hi] at hnone
    cases hnone

end Sys2Proof.Machine
end

section
/-! The five rows of the transition table (30_encoding.md R83, R84): a key is its four bits, and the row they select is
the transition of a step. -/

namespace Sys2Proof.Machine

/-- A key is its four bits (R83). -/
theorem fsmKey_eq_bits (key : FsmKey) :
    key = fsmBit (key.getLsbD 3) 0b1000 ||| fsmBit (key.getLsbD 2) 0b0100 ||| fsmBit (key.getLsbD 1) 0b0010 |||
      fsmBit (key.getLsbD 0) 0b0001 := by
  revert key
  decide

theorem encode_decodeFsm (key : FsmKey) : encode (decodeFsm key) = .fsm key := by
  rw [decodeFsm, encode_rowOfBits, ← fsmKey_eq_bits]

/-- A transition has no operand that could be out of range. -/
theorem wellFormed_decodeFsm (p : Params) (key : FsmKey) : (decodeFsm key).wellFormed p = true := by
  unfold decodeFsm rowOfBits
  split <;> rfl

/-- Settles O3: a key is the encoding of its transition, which matches the row of that transition and no other. -/
theorem fsmRowsPartitionKeys : Obligations.FsmRowsPartitionKeys := by
  intro key
  refine ⟨?_, encode_decodeFsm key⟩
  rw [← encode_decodeFsm key]
  exact rows_encode (wellFormed_decodeFsm Config.defaults key)

/-- Settles O31: the four bits of the key are the state, the pulse, the acceptance and the terminal test. -/
theorem transitionSelectedByKey : Obligations.TransitionSelectedByKey := by
  intro s lvl acc pulse
  have hrow : decodeFsm (s.fsmKey lvl acc) = rowOfBits s.wrValid pulse (s.wrValid && acc) s.last :=
    rowOfBits_key _ _ _ _
  rw [hrow]
  cases hs : s.currentState with
  | idle => rw [wrValid_of_idle hs]; cases pulse <;> rfl
  | active => rw [wrValid_of_active hs]; cases acc <;> cases s.last <;> rfl

end Sys2Proof.Machine
end

section
/-! From the host's input to a step (30_encoding.md R81, R82, R92, 41_engine_fsm.md R140): a word of the opcode table, an
access by address, the decoded operation in a step, and `WAITRDY`. -/

namespace Sys2Proof.Machine

/-- Settles O6: each word is cut into its key and data word and decoded. -/
theorem tableWordsDecode : Obligations.TableWordsDecode :=
  ⟨rfl, rfl, rfl, rfl, rfl, rfl, rfl⟩

/-- An access inside the window has its distance from the base in the key. -/
theorem hostAccess_inside {base off : Nat} (h : off ≤ 0xFF) (we : Bool) (wdata : Nat) :
    hostAccess base (base + off) we wdata = .txn (csrKey we (BitVec.ofNat 8 off)) wdata := by
  rw [hostAccess, if_pos (by omega), Nat.add_sub_cancel_left]

theorem hostAccess_outside {base addr : Nat} (h : addr < base ∨ base + 0xFF < addr) (we : Bool) (wdata : Nat) :
    hostAccess base addr we wdata = hostNop :=
  if_neg (by omega)

/-- Settles O7: the fields of the key inside the window, and `NOP` outside it. -/
theorem hostAccessByAddress : Obligations.HostAccessByAddress := by
  intro base addr we wdata
  constructor
  · rintro off hoff rfl
    rw [hostAccess_inside hoff]
    exact ⟨csrKey_valid _ _, csrKey_we _ _, csrKey_rsv _ _, csrKey_offset _ _, rfl⟩
  · intro h
    rw [hostAccess_outside h]
    rfl

/-- Parts of a step that run one after another can be put together from either end. -/
theorem andThen_assoc (o : Host.Outcome State Fault Refusal) (f g : State → Host.Outcome State Fault Refusal) :
    andThen (andThen o f) g = andThen o fun s => andThen (f s) g := by
  cases o <;> rfl

/-- Settles O29: the host's half of a decoded transaction is its operation, and the key is formed from its request. -/
theorem stepRunsDecodedOperations : Obligations.StepRunsDecodedOperations := by
  intro s i hr hi
  rw [step, stepFromInputs, globalStep, hr, if_neg Bool.false_ne_true, State.engineKey, hostInstr_of_ok hi,
    markBadKey_of_ok (s := s.present) hi, andThen_assoc]

/-- `RDATA` of a step is what the host's half reads: no transition returns one. -/
theorem step_rdata {s t : State} (hr : s.nextRst = false) (h : step s = .next t) : t.rdata = s.mid.rdata := by
  cases step_eq_next_iff.1 h with
  | reset hr' => rw [hr] at hr'; cases hr'
  | idleStart =>
    obtain ⟨-, -, -, -, -, -, -, -, hrdata, -⟩ := startFrom_fields s.mid
    exact hrdata
  | _ => rfl

/-- Bit 0 of a read of `READY` is 1 exactly in `IDLE`, whatever is drawn above it (40_csr_access.md R118). -/
theorem csrRead_ready_odd_iff (s : State) : s.csrRead .ready % 2 = 1 ↔ s.currentState = .idle := by
  have hlow : s.csrRead .ready % 2 = trunc 1 (s.csrValue .ready) := readWord_low _ 1 _ _
  rw [hlow, State.csrValue]
  cases s.currentState <;> decide

/-- What is left of a program at a `WAITRDY` in a step without reset (R92). -/
theorem hostRest_waitRdy {s : State} {rest : List HostOp} (h : s.hostProg = .waitRdy :: rest)
    (hr : s.nextRst = false) : s.hostRest = if s.currentState = .idle then rest else .waitRdy :: rest := by
  unfold State.hostRest State.ready
  rw [h, hr]
  cases s.currentState <;> rfl

/-- Settles O51: the step reads `READY`, and both the read and the program go by whether the engine is idle. -/
theorem waitRdyEndsWhenReady : Obligations.WaitRdyEndsWhenReady := by
  intro s rest hprog hr
  obtain ⟨t, ht⟩ := exists_stepCase s
  have hstep := step_of_case ht
  have hop : s.nextOp = .waitRdy := by rw [State.nextOp, hprog]
  have hdec : decodeCsr s.cfg s.nextOp.key s.nextOp.wdata = .ok .csrrReady := by
    rw [hop]
    exact decodeCsr_csrKey_iff.2 rfl
  have hread : t.rdata = some (s.csrRead .ready) := by
    rw [step_rdata hr hstep, mid_of_ok hdec]
    rfl
  obtain ⟨-, -, hrest, -⟩ := step_inputs hstep
  refine ⟨t, _, hstep, hread, csrRead_ready_odd_iff s, ?_⟩
  rw [hrest, hostRest_waitRdy hprog hr]
  simp only [csrRead_ready_odd_iff]

end Sys2Proof.Machine
end

section
/-! A transaction on its own (40_csr_access.md R100 to R120): a read is the register's meaningful bits under a draw, a
write stores in its one register, and neither touches anything else but `trig_prev`. -/

namespace Sys2Proof.Machine

/-! ### Reads -/

/-- `ready` has one meaningful bit, which holds its value in every state (10_state.md R26). -/
theorem csrValue_ready_lt (s : State) : s.csrValue .ready < 2 ^ meaningfulBits s.cfg .ready := by
  have hbit : s.csrValue .ready < 2 := by
    rw [State.csrValue]
    split <;> decide
  exact hbit

/-- Within the widths of the registers, the meaningful bits of each hold its value (R101). -/
theorem csrValue_lt {s : State} (hw : s.WidthsOk) (r : CsrReg) : s.csrValue r < 2 ^ meaningfulBits s.cfg r := by
  cases r with
  | startTrigger => exact Nat.one_pos
  | ready => exact csrValue_ready_lt s
  | burstSize => exact hw.burst_size
  | baseAddress => exact hw.base_address
  | addressOffset => exact hw.address_offset
  | passCount => exact hw.pass_count

/-- A read is the register's value, with the draw of the step above its meaningful bits (R101). -/
theorem csrRead_eq_of_lt {s : State} {r : CsrReg} (h : s.csrValue r < 2 ^ meaningfulBits s.cfg r) :
    s.csrRead r = s.csrValue r + 2 ^ meaningfulBits s.cfg r *
      (Config.rdataDraw s.stepNo % 2 ^ (s.cfg.csrDataW - meaningfulBits s.cfg r)) := by
  rw [State.csrRead, readWord, trunc_of_lt h, trunc]

/-- A register as wide as the transfer is read as it is (R115, R117). -/
theorem csrRead_eq_csrValue {s : State} {r : CsrReg} (h : s.csrValue r < 2 ^ meaningfulBits s.cfg r)
    (hfull : meaningfulBits s.cfg r = s.cfg.csrDataW) : s.csrRead r = s.csrValue r := by
  rw [hfull] at h
  rw [State.csrRead, hfull, readWord_full, trunc_of_lt h]

/-- A read returns `RDATA`, clears `trig_prev` and has no other effect (R100, R101). -/
theorem exec_of_decodeRead {r : CsrReg} {i : Instr} (hi : decodeRead r = some i) (s : State) :
    exec i s = .next { s with rdata := some (s.csrRead r), trigPrev := false } := by
  cases r <;> cases hi <;> rfl

/-- The read of a register that is within its width. -/
theorem exec_read_of_lt {s : State} {r : CsrReg} {i : Instr} (hi : decodeRead r = some i)
    (h : s.csrValue r < 2 ^ meaningfulBits s.cfg r) :
    exec i s = .next { s with
      rdata := some (s.csrValue r + 2 ^ meaningfulBits s.cfg r *
        (Config.rdataDraw s.stepNo % 2 ^ (s.cfg.csrDataW - meaningfulBits s.cfg r)))
      trigPrev := false } := by
  rw [exec_of_decodeRead hi, csrRead_eq_of_lt h]

/-- The read of a register as wide as the transfer: no bit is drawn. -/
theorem exec_read_of_full {s : State} {r : CsrReg} {i : Instr} (hi : decodeRead r = some i)
    (h : s.csrValue r < 2 ^ meaningfulBits s.cfg r) (hfull : meaningfulBits s.cfg r = s.cfg.csrDataW) :
    exec i s = .next { s with rdata := some (s.csrValue r), trigPrev := false } := by
  rw [exec_of_decodeRead hi, csrRead_eq_csrValue h hfull]

/-- The key of a read decodes to the read of its register, whatever the data lines hold (R82). -/
theorem decodeCsr_read {r : CsrReg} {i : Instr} (hi : decodeRead r = some i) (p : Params) (wdata : Nat) :
    decodeCsr p (csrKey false r.offset) wdata = .ok i :=
  decodeCsr_csrKey_iff.2 hi

/-- Settles O11: no bit of `start_trigger` is meaningful, so a draw fills the whole word. -/
theorem triggerReadIsDraw : Obligations.TriggerReadIsDraw := by
  refine ⟨decodeCsr_read (r := .startTrigger) rfl, fun s => ?_⟩
  rw [exec_of_decodeRead (r := .startTrigger) rfl, State.csrRead, meaningfulBits, readWord_none, trunc]

/-- Settles O13: the register is within its `BURST_SIZE_W` bits. -/
theorem burstSizeReadReturnsRegister : Obligations.BurstSizeReadReturnsRegister :=
  ⟨decodeCsr_read (r := .burstSize) rfl, fun _ hw => exec_read_of_lt rfl (csrValue_lt hw .burstSize)⟩

/-- Settles O15: the register is within its `ADDR_REG_W` bits, and no draw is left above them at equal widths. -/
theorem baseAddressReadReturnsRegister : Obligations.BaseAddressReadReturnsRegister :=
  ⟨decodeCsr_read (r := .baseAddress) rfl, fun _ hw => exec_read_of_lt rfl (csrValue_lt hw .baseAddress),
    fun _ hw => exec_read_of_full rfl (csrValue_lt hw .baseAddress)⟩

/-- Settles O17: as for `base_address`; the latched copy is not read. -/
theorem addressOffsetReadReturnsRegister : Obligations.AddressOffsetReadReturnsRegister :=
  ⟨decodeCsr_read (r := .addressOffset) rfl, fun _ hw => exec_read_of_lt rfl (csrValue_lt hw .addressOffset),
    fun _ hw => exec_read_of_full rfl (csrValue_lt hw .addressOffset)⟩

/-- Settles O18: the one meaningful bit of `ready` is within its width in every state. -/
theorem readyReadShowsIdle : Obligations.ReadyReadShowsIdle :=
  ⟨decodeCsr_read (r := .ready) rfl, fun s => exec_read_of_lt rfl (csrValue_ready_lt s)⟩

/-- Settles O19: the counter is within its `PASS_W` bits. -/
theorem passCountReadReturnsCounter : Obligations.PassCountReadReturnsCounter :=
  ⟨decodeCsr_read (r := .passCount) rfl, fun _ hw => exec_read_of_lt rfl (csrValue_lt hw .passCount)⟩

/-! ### Writes and `NOP` -/

/-- The key of a write decodes to the write of its register, with the data word cut to its lines (R81, R82). -/
theorem decodeCsr_write {p : Params} {r : CsrReg} {wdata : Nat} {i : Instr}
    (hi : decodeWrite (trunc p.csrDataW wdata) r = some i) : decodeCsr p (csrKey true r.offset) wdata = .ok i :=
  decodeCsr_csrKey_iff.2 hi

/-- A write that is no trigger stores its data word in its register and clears `trig_prev` (R102). -/
theorem exec_of_decodeWrite {r : CsrReg} {wdata : Nat} {i : Instr} (hr : r ≠ .startTrigger)
    (hi : decodeWrite wdata r = some i) (s : State) :
    exec i s = .next ((s.setTrigPrev false).setConfig r (writeValue s.cfg r wdata)) := by
  rw [exec_host (hostSide_decodeWrite hi), State.afterHost_of_decodeWrite hr hi]
  rfl

/-- Settles O9: a key without `VALID` is a `NOP`, whose host's half writes `trig_prev` alone. -/
theorem nopClearsTrigPrev : Obligations.NopClearsTrigPrev :=
  ⟨fun p _ wdata hv => ⟨_, decodeCsr_of_invalid hv p wdata⟩, fun _ s => exec_host rfl s⟩

/-- Settles O10: the host's half of a trigger write is its request. -/
theorem triggerWriteRecordsRequest : Obligations.TriggerWriteRecordsRequest :=
  ⟨fun _ _ => decodeCsr_write (r := .startTrigger) rfl, fun _ s => exec_host rfl s⟩

/-- Settles O12: the write of `burst_size` by the rule of a configuration write. -/
theorem burstSizeWriteTruncates : Obligations.BurstSizeWriteTruncates :=
  ⟨fun _ _ => decodeCsr_write (r := .burstSize) rfl, fun _ => exec_of_decodeWrite (r := .burstSize) nofun rfl⟩

/-- Settles O14: the write of `base_address` by the rule of a configuration write. -/
theorem baseAddressWriteStores : Obligations.BaseAddressWriteStores :=
  ⟨fun _ _ => decodeCsr_write (r := .baseAddress) rfl, fun _ => exec_of_decodeWrite (r := .baseAddress) nofun rfl⟩

/-- Settles O16: the write of `address_offset` by the rule of a configuration write. -/
theorem addressOffsetWriteStores : Obligations.AddressOffsetWriteStores :=
  ⟨fun _ _ => decodeCsr_write (r := .addressOffset) rfl,
    fun _ => exec_of_decodeWrite (r := .addressOffset) nofun rfl⟩

end Sys2Proof.Machine
end

section
/-! A refused key (40_csr_access.md R103): its step carries no trigger request, so the engine takes a transition that
gives no pulse, and such a transition neither reads nor clears the mark. -/

namespace Sys2Proof.Machine

/-- The engine's half of a step without a pulse (41_engine_fsm.md R145, R147 to R149). -/
def State.withoutPulse (s : State) (st acc last : Bool) : State :=
  if st then s.afterActive acc last else s.enterIdle

/-- The rows of a key with `TRG = 0` (30_encoding.md R84). -/
theorem exec_rowOfBits_withoutPulse (st acc last : Bool) (s : State) :
    exec (rowOfBits st false acc last) s = .next (s.withoutPulse st acc last) := by
  cases st with
  | false => rfl
  | true => exact exec_rowOfBits_active false acc last s

/-- A step without reset and without a pulse: the host's half, then the engine's. -/
theorem step_without_pulse {s : State} (hr : s.nextRst = false) (hp : s.pulsing = false) :
    step s = .next ((s.mid.withoutPulse s.wrValid (s.wrValid && s.nextAcc) s.last).advanceFrom s) := by
  rw [step_without_reset hr, hp, exec_rowOfBits_withoutPulse]
  rfl

/-- Without a request there is no pulse, in either mode (41_engine_fsm.md R142). -/
theorem pulsing_of_no_level {s : State} (h : triggerLevel (hostInstr s.cfg s.nextOp) = false) :
    s.pulsing = false :=
  Bool.eq_false_iff.2 fun hp => by
    rw [State.level_of_pulsing hp] at h
    cases h

/-- `NOP` decodes to itself (40_csr_access.md R105). -/
theorem decodeCsr_hostNop (p : Params) : decodeCsr p hostNop.key hostNop.wdata = .ok (.nop 0) :=
  decodeCsr_of_invalid rfl p _

/-! ### The mark -/

/-- A transition without a pulse returns no `RDATA` and reports no refusal. -/
theorem State.withoutPulse_outputs (s : State) (st acc last : Bool) :
    (s.withoutPulse st acc last).rdata = s.rdata ∧ (s.withoutPulse st acc last).raised = s.raised := by
  cases st with
  | false => exact ⟨rfl, rfl⟩
  | true => cases acc <;> cases last <;> exact ⟨rfl, rfl⟩

/-- A refusal mark comes through a transition without a pulse as it is. -/
theorem State.withoutPulse_refuse (s : State) (reason : RefuseReason) (st acc last : Bool) :
    (s.refuse reason).withoutPulse st acc last = (s.withoutPulse st acc last).refuse reason := by
  cases st with
  | false => rfl
  | true => cases acc <;> cases last <;> rfl

/-- The one refusal of a step is the one it reports. -/
theorem State.refuse_advanceFrom {s : State} (h : s.raised = []) (reason : RefuseReason) (u : State) :
    (s.refuse reason).advanceFrom u = { s.advanceFrom u with refused := true, raised := [reason] } := by
  rw [State.refuse, h]
  rfl

/-! ### Another host program -/

/-- The state with another host program still to run. -/
def State.withProg (s : State) (prog : List HostOp) : State := { s with hostProg := prog }

theorem State.withoutPulse_withProg (s : State) (prog : List HostOp) (st acc last : Bool) :
    (s.withProg prog).withoutPulse st acc last = (s.withoutPulse st acc last).withProg prog := by
  cases st with
  | false => rfl
  | true => cases acc <;> cases last <;> rfl

/-- Two programs of which a step leaves the same rest lead to the same state. -/
theorem State.advanceFrom_withProg {s : State} {prog : List HostOp} (h : (s.withProg prog).hostRest = s.hostRest)
    (t : State) : (t.withProg prog).advanceFrom (s.withProg prog) = t.advanceFrom s := by
  rw [State.advanceFrom, h]
  rfl

/-- A step whose transaction is `NOP`, in terms of the state before the program was changed. -/
theorem step_withProg_hostNop {s : State} {rest : List HostOp} (hr : s.nextRst = false) (hrest : s.hostRest = rest) :
    step (s.withProg (hostNop :: rest)) =
      .next (((s.present.afterHost (.nop 0)).withoutPulse s.wrValid (s.wrValid && s.nextAcc)
        s.last).advanceFrom s) := by
  have hmid : (s.withProg (hostNop :: rest)).mid = (s.present.afterHost (.nop 0)).withProg (hostNop :: rest) :=
    mid_of_ok (s := s.withProg (hostNop :: rest)) (decodeCsr_hostNop s.cfg)
  have hsame : (s.withProg (hostNop :: rest)).hostRest = s.hostRest := hrest.symm
  have hquiet : (s.withProg (hostNop :: rest)).pulsing = false :=
    pulsing_of_no_level (congrArg triggerLevel (hostInstr_of_ok (decodeCsr_hostNop s.cfg)))
  rw [step_without_pulse (s := s.withProg (hostNop :: rest)) hr hquiet, hmid, State.withoutPulse_withProg,
    State.advanceFrom_withProg hsame]
  rfl

/-- Settles O33: with `NOP` in its place the step takes the same transition, one without a pulse. -/
theorem refusedKeyActsAsNop : Obligations.RefusedKeyActsAsNop := by
  intro s key wdata rest hr hprog hbad
  have hop : s.nextOp = .txn key wdata := by rw [State.nextOp, hprog]
  have hdec : decodeCsr s.cfg s.nextOp.key s.nextOp.wdata = .error (.badCsrKey key) := by
    rw [hop]
    exact hbad
  have hrest : s.hostRest = rest := by rw [State.hostRest, hprog]
  have hmid : s.mid = (s.present.afterHost (.nop 0)).refuse (.badCsrKey key) := mid_of_error hdec
  have hquiet : s.pulsing = false := pulsing_of_no_level (by rw [hostInstr_of_error hdec]; rfl)
  obtain ⟨hrdata, hraised⟩ := (s.present.afterHost (.nop 0)).withoutPulse_outputs s.wrValid
    (s.wrValid && s.nextAcc) s.last
  refine ⟨_, step_withProg_hostNop hr hrest, ?_, hrdata⟩
  rw [step_without_pulse hr hquiet, hmid, State.withoutPulse_refuse, State.refuse_advanceFrom hraised]

end Sys2Proof.Machine
end

section
/-! A configuration register over a run (40_csr_access.md R104): only the host's half of a step can write it, and that
only with the key of its write. -/

namespace Sys2Proof.Machine

/-- A row of the transition table is no operation of the host (30_encoding.md R84). -/
theorem hostSide_rowOfBits (st trg acc last : Bool) : hostSide (rowOfBits st trg acc last) = false := by
  unfold rowOfBits
  split <;> rfl

/-- Without reset, a configuration register after a step is what the host's half leaves in it (10_state.md R38). -/
theorem step_csrValue {s t : State} {r : CsrReg} (hr : r = .burstSize ∨ r = .baseAddress ∨ r = .addressOffset)
    (hrst : s.nextRst = false) (h : step s = .next t) : t.csrValue r = s.mid.csrValue r := by
  rw [step_without_reset hrst] at h
  obtain ⟨u, hu⟩ := exec_answers (rowOfBits s.wrValid s.pulsing (s.wrValid && s.nextAcc) s.last) s.mid
  rw [hu] at h
  cases h
  obtain ⟨hsize, hbase, hoff, -⟩ := exec_transition_frame (hostSide_rowOfBits _ _ _ _) hu
  obtain rfl | rfl | rfl := hr
  · exact hsize
  · exact hbase
  · exact hoff

/-- A write of a register has the key of that write and no other (30_encoding.md R82). -/
theorem hostInstr_ne_write {op : HostOp} {r : CsrReg} (h : op.key ≠ csrKey true r.offset) (p : Params) (wdata : Nat) :
    decodeWrite wdata r ≠ some (hostInstr p op) := by
  intro hw
  have henc := encode_of_decodeWrite hw
  cases hd : decodeCsr p op.key op.wdata with
  | ok i =>
    obtain ⟨-, hi⟩ := encodeDecodeCsrKey p op.key op.wdata i hd
    rw [hostInstr_of_ok hd, hi] at henc
    exact h (Frame.csr.inj henc).1
  | error reason =>
    rw [hostInstr_of_error hd] at hw
    cases r <;> cases hw

/-- The host's half changes the value of no register but the one it writes (40_csr_access.md R100). -/
theorem afterHost_csrValue {i : Instr} {r : CsrReg} (h : ∀ wdata, decodeWrite wdata r ≠ some i) (s : State) :
    (s.afterHost i).csrValue r = s.csrValue r := by
  cases r with
  | burstSize => cases i with
    | csrwBurstSize wdata => exact absurd rfl (h wdata)
    | _ => rfl
  | baseAddress => cases i with
    | csrwBaseAddress wdata => exact absurd rfl (h wdata)
    | _ => rfl
  | addressOffset => cases i with
    | csrwAddressOffset wdata => exact absurd rfl (h wdata)
    | _ => rfl
  | startTrigger | ready | passCount => rfl

/-- The outputs and the refusal mark are no registers. -/
theorem markBadKey_present_csrValue (s : State) (op : HostOp) (r : CsrReg) :
    (s.present.markBadKey op).csrValue r = s.csrValue r := by
  unfold State.markBadKey
  split <;> cases r <;> rfl

/-- The host's half of a step whose key is not that of a write of the register. -/
theorem mid_csrValue_of_no_write {s : State} {r : CsrReg} (h : s.nextOp.key ≠ csrKey true r.offset) :
    s.mid.csrValue r = s.csrValue r :=
  (afterHost_csrValue (hostInstr_ne_write h s.cfg) _).trans (markBadKey_present_csrValue s _ r)

/-- The host's half of a step that writes a configuration register (40_csr_access.md R102). -/
theorem mid_csrValue_of_write {s : State} {r : CsrReg} {wdata : Nat}
    (hr : r = .burstSize ∨ r = .baseAddress ∨ r = .addressOffset) (hp : s.cfg.Ok)
    (hop : s.nextOp = hostCsrw r wdata) : s.mid.csrValue r = writeValue s.cfg r wdata := by
  have hval : writeValue s.cfg r (trunc s.cfg.csrDataW wdata) = writeValue s.cfg r wdata :=
    trunc_trunc (csrWidth_le hp r) wdata
  obtain ⟨i, hi⟩ : ∃ i, decodeWrite (trunc s.cfg.csrDataW wdata) r = some i :=
    exists_decodeWrite_iff.2 (by obtain rfl | rfl | rfl := hr <;> decide)
  have hdec : decodeCsr s.cfg s.nextOp.key s.nextOp.wdata = .ok i := by
    rw [hop]
    exact decodeCsr_write hi
  have htrig : r ≠ .startTrigger := by obtain rfl | rfl | rfl := hr <;> decide
  rw [mid_of_ok hdec, State.afterHost_of_decodeWrite htrig hi, State.present_cfg, hval]
  obtain rfl | rfl | rfl := hr <;> rfl

/-! ### Along a run -/

/-- No operation still to be issued writes the register. -/
def State.NoWriteAhead (s : State) (r : CsrReg) : Prop := ∀ op ∈ s.hostProg, op.key ≠ csrKey true r.offset

/-- Neither does the next operation, which past the end of the program is `NOP` (30_encoding.md R93). -/
theorem State.NoWriteAhead.nextOp {s : State} {r : CsrReg} (h : s.NoWriteAhead r) :
    s.nextOp.key ≠ csrKey true r.offset := by
  unfold State.nextOp
  split
  · intro hkey
    have hv := csrKey_valid true r.offset
    rw [← hkey] at hv
    cases hv
  · next op ops hprog => exact h op (hprog ▸ List.mem_cons_self)

/-- What is left of a program after a step was there before it. -/
theorem mem_hostProg_of_mem_hostRest {s : State} {op : HostOp} (h : op ∈ s.hostRest) : op ∈ s.hostProg := by
  unfold State.hostRest at h
  split at h
  · cases h
  · next hprog =>
    rw [hprog]
    split at h
    · exact List.mem_cons_of_mem _ h
    · exact h
  · next hprog =>
    rw [hprog]
    exact List.mem_cons_of_mem _ h

/-- A register holds a value, and neither a reset nor a write of it is to come. -/
structure State.Settled (r : CsrReg) (v : Nat) (s : State) : Prop where
  value : s.csrValue r = v
  no_reset : s.NoReset
  no_write : s.NoWriteAhead r

/-- A step keeps a settled configuration register. -/
theorem settled_step {s t : State} {r : CsrReg} {v : Nat}
    (hr : r = .burstSize ∨ r = .baseAddress ∨ r = .addressOffset) (h : s.Settled r v) (hstep : step s = .next t) :
    t.Settled r v := by
  obtain ⟨hv, hn, hw⟩ := h
  obtain ⟨-, -, hprog, -⟩ := step_inputs hstep
  refine ⟨?_, noReset_step hn hstep, fun op hop => hw op (mem_hostProg_of_mem_hostRest (hprog ▸ hop))⟩
  rw [step_csrValue hr (nextRst_of_noReset hn) hstep, mid_csrValue_of_no_write hw.nextOp, hv]

/-- Settles O45: the step with the write settles the register, and every later step keeps it so. -/
theorem configurationReadsBack : Obligations.ConfigurationReadsBack := by
  intro r s t wdata n ops hr hp hn hprog hops hrun
  obtain ⟨u, hu, hrun⟩ := reaches_succ.1 hrun
  have hop : s.nextOp = hostCsrw r wdata := by rw [State.nextOp, hprog]
  have hwritten : u.csrValue r = writeValue s.cfg r wdata := by
    rw [step_csrValue hr (nextRst_of_noReset hn) hu, mid_csrValue_of_write hr hp hop]
  have hrest : u.hostProg = ops := by
    obtain ⟨-, -, hprog', -⟩ := step_inputs hu
    rw [hprog', State.hostRest, hprog]
    rfl
  have hsettled : u.Settled r (writeValue s.cfg r wdata) :=
    ⟨hwritten, noReset_step hn hu, fun op h => hops op (hrest ▸ h)⟩
  exact (reaches_keeps (fun _ _ => settled_step hr) hsettled hrun).value

end Sys2Proof.Machine
end

section
/-! The engine's transitions on their own (41_engine_fsm.md R145 to R149, R153): the keys of each row, and the updates
each is made of. -/

namespace Sys2Proof.Machine

/-- Settles O20: both free bits of the key are passed over, and nothing is offered in `IDLE`. -/
theorem idleHoldEffect : Obligations.IdleHoldEffect :=
  ⟨by decide, fun _ => wrValid_of_idle, fun _ _ _ => rfl⟩

/-- What `IDLE_START` does, whatever its free bits are. -/
theorem exec_idleStart (acc last : Bool) (s : State) : exec (.idleStart acc last) s = .next (startFrom s) := rfl

/-- Settles O21: a nonzero size latches the configuration. -/
theorem idleStartLatchesConfiguration : Obligations.IdleStartLatchesConfiguration := by
  refine ⟨by decide, fun acc last s hsize => ?_⟩
  rw [exec_idleStart, startFrom_of_size hsize]
  rfl

/-- A zero size goes by the policy (R153). -/
theorem startFrom_of_zero {s : State} (h : s.burstSize = 0) : startFrom s = zeroBurstStart s := if_pos h

/-- Settles O22: each policy's row, read off its named updates. -/
theorem zeroBurstPolicies : Obligations.ZeroBurstPolicies := by
  intro acc last s hsize
  rw [exec_idleStart, startFrom_of_zero hsize, zeroBurstStart]
  cases s.cfg.zeroBurst with
  | refuse | skip | skipCount | asOne | wrap => rfl

/-- Settles O23: the accepted write lands as one word at the target. -/
theorem advanceWritesAndCounts : Obligations.AdvanceWritesAndCounts := by
  refine ⟨by decide, fun trg s hs => ⟨s.acceptWrite.mem, ?_, Memory.read_writeWord _ _ _ _⟩⟩
  rw [← hs]
  rfl

/-- Settles O24: the terminal write lands as any other. -/
theorem completeWritesAndReturnsToIdle : Obligations.CompleteWritesAndReturnsToIdle :=
  ⟨by decide, fun _ s => ⟨s.acceptWrite.mem, rfl, Memory.read_writeWord _ _ _ _⟩⟩

/-- Settles O25: the row answers the state itself. -/
theorem stallChangesNothing : Obligations.StallChangesNothing :=
  ⟨by decide, fun _ _ _ => rfl⟩

end Sys2Proof.Machine
end

section
/-! What an active state offers, and whether it is the last word of the burst (41_engine_fsm.md R150 to R152). -/

namespace Sys2Proof.Machine

/-- The word address counts from the first word of the latched copies (R150). -/
theorem wordAddr_eq (s : State) : s.wordAddr = trunc s.cfg.wordAddrW (s.latchedWord + s.wordsWritten) := rfl

/-- Only `WRAP` has a burst whose counter reaches the largest value of its width (R153). -/
theorem wordsWritten_add_two_le {s : State} (hw : s.WidthsOk) (hc : s.CounterOk) (hs : s.currentState = .active)
    (hz : s.cfg.zeroBurst ≠ .wrap) : s.wordsWritten + 2 ≤ 2 ^ s.cfg.burstSizeW := by
  obtain ⟨hlt, hwrap⟩ := (counterOk_iff_of_active hs).1 hc
  have hsize : s.latSize ≠ 0 := fun h0 => hz (hwrap h0)
  have hlen : s.burstLength = s.latSize := if_neg hsize
  have hlat := hw.lat_size
  omega

/-- Settles O26: two registers of 30 word bits and a counter of 16 stay below `2^32`. -/
theorem wordAddressIsExactSum : Obligations.WordAddressIsExactSum := by
  intro s hcfg hw hc hs
  have hburst : s.cfg.burstSizeW = 16 := congrArg Params.burstSizeW hcfg
  have haddr : s.cfg.addrRegW = 32 := congrArg Params.addrRegW hcfg
  have hshift : s.cfg.wordShift = 2 := congrArg Params.wordShift hcfg
  have hbus : s.cfg.wordAddrW = 32 := congrArg Params.wordAddrW hcfg
  have hbase := hw.lat_base
  have hoff := hw.lat_offset
  have hcount := hw.words_written
  have hnarrow := wordsWritten_add_two_le hw hc hs
  have hfirst : s.latchedWord = s.latBase / 4 + s.latOffset / 4 := by
    rw [State.latchedWord, hshift, Nat.shiftRight_eq_div_pow, Nat.shiftRight_eq_div_pow]
  rw [haddr] at hbase hoff
  rw [hburst] at hcount hnarrow
  have hfits : s.latchedWord + s.wordsWritten < 2 ^ 32 := by omega
  rw [wordAddr_eq, hbus, trunc_of_lt hfits, hfirst]
  exact ⟨rfl, by omega, fun hz => by have := hnarrow hz; omega⟩

/-- A byte above all bits of the data word is 0 (20_memory.md R52). -/
theorem wordByte_of_lt {p : Params} {data k : Nat} (h : data < 2 ^ (8 * (p.wordBytes - 1 - k))) :
    wordByte p data k = 0 := by
  rw [wordByte, Nat.shiftRight_eq_div_pow, Nat.div_eq_of_lt h]
  rfl

/-- Settles O27: `pass_count` has 5 bits, which the lowest byte of the word holds. -/
theorem payloadIsPassCount : Obligations.PayloadIsPassCount := by
  intro s hcfg hw
  have hpass : s.cfg.passW = 5 := congrArg Params.passW hcfg
  have hdata : s.cfg.dataW = 32 := congrArg Params.dataW hcfg
  have hbytes : s.cfg.wordBytes = 4 := congrArg Params.wordBytes hcfg
  have hcount := hw.pass_count
  rw [hpass] at hcount
  have hpayload : s.payload = s.passCount := by
    rw [State.payload, hdata]
    exact trunc_of_lt (by omega)
  have hzero : ∀ k, k < 3 → wordByte s.cfg s.passCount k = 0 := fun k hk => by
    refine wordByte_of_lt (hcount.trans_le (Nat.pow_le_pow_right two_pos ?_))
    omega
  rw [hpayload]
  refine ⟨rfl, hzero 0 (by decide), hzero 1 (by decide), hzero 2 (by decide), ?_⟩
  rw [wordByte, hbytes]
  rfl

/-- Within the range of 10_state.md R39, the terminal test fails while the burst has a word left after this one. -/
theorem not_last_iff {s : State} (hw : s.WidthsOk) (hc : s.CounterOk) (hs : s.currentState = .active) :
    s.last = false ↔ s.wordsWritten + 1 < s.burstLength := by
  refine ⟨succ_lt_burstLength hw hc hs, fun hlt => Bool.eq_false_iff.2 fun hl => ?_⟩
  have := (last_iff_burstLength hw.lat_size).1 hl
  omega

/-- Settles O28: both tests are against the length of the burst, which is the latched size, or all of the counter's
width for the latched size 0. -/
theorem terminalTestExact : Obligations.TerminalTestExact := by
  intro s hw hc hs
  have hlast := last_iff_burstLength hw.lat_size
  have hmore := not_last_iff hw hc hs
  have hlen := burstLength_le hw
  have hpos := burstLength_pos s
  refine ⟨fun hsize => ?_, fun hsize => ?_, fun hl => (hmore.1 hl).trans_le hlen⟩
  · have hlatched : s.burstLength = s.latSize := if_neg (by omega)
    rw [hlast, hmore]
    omega
  · have hall : s.burstLength = 2 ^ s.cfg.burstSizeW := if_pos hsize
    rw [hlast, hmore]
    omega

end Sys2Proof.Machine
end

section
/-! One step of the whole block (41_engine_fsm.md R140 to R143): the offer of its start, the host's half, and the
engine's half, which reads none of what the host's half wrote. -/

namespace Sys2Proof.Machine

/-- Settles O32: one of the six cases of a step applies to every state. -/
theorem stepAlwaysAnswers : Obligations.StepAlwaysAnswers := fun s => (exists_stepCase s).imp fun _ => step_of_case

/-! ### The offer -/

/-- A step without reset, for any inputs: the host's half, then the row of the key formed at its start (R140). -/
theorem globalStep_without_reset (s : State) (op : HostOp) (acc : Bool) :
    globalStep s op false acc =
      exec (rowOfBits s.wrValid (triggerPulse s.cfg.triggerMode (triggerLevel (hostInstr s.cfg op)) s.trigPrev)
        (s.wrValid && acc) s.last) ((s.present.markBadKey op).afterHost (hostInstr s.cfg op)) := by
  rw [globalStep, if_neg Bool.false_ne_true, exec_host (hostSide_hostInstr _ _), decodeFsm_engineKey]
  rfl

/-- No transition writes the offer, which the step has taken from its start (R141). -/
theorem exec_transition_offer {i : Instr} {s t : State} (hi : hostSide i = false) (h : exec i s = .next t) :
    t.offer = s.offer := by
  cases i with
  | idleStart =>
    obtain ⟨-, -, -, -, -, -, -, -, -, hoffer⟩ := startFrom_fields s
    cases h
    exact hoffer
  | idleHold | activeAdvance | activeComplete | activeStall => cases h; rfl
  | _ => cases hi

/-- The host's half leaves the offer as it was presented. -/
theorem hostHalf_offer (s : State) (op : HostOp) (i : Instr) :
    ((s.present.markBadKey op).afterHost i).offer = s.present.offer := by
  unfold State.markBadKey
  split <;> rfl

theorem present_offer_of_idle {s : State} (h : s.currentState = .idle) : s.present.offer = none := by
  rw [State.present_offer, wrValid_of_idle h]
  rfl

theorem present_offer_of_active {s : State} (h : s.currentState = .active) :
    s.present.offer = some ⟨s.wordAddr, s.payload⟩ := by
  rw [State.present_offer, wrValid_of_active h]
  rfl

/-- Settles O36: neither half writes the offer, and in `IDLE` the key does not hold the answer. -/
theorem offerFixedByState : Obligations.OfferFixedByState := by
  intro s op
  refine ⟨fun acc => ?_, fun hs rst => ?_⟩
  · rw [globalStep_without_reset]
    obtain ⟨t, ht⟩ := exec_answers _ ((s.present.markBadKey op).afterHost (hostInstr s.cfg op))
    refine ⟨t, ht, ?_⟩
    rw [exec_transition_offer (hostSide_rowOfBits _ _ _ _) ht, hostHalf_offer]
    cases hs : s.currentState with
    | idle => exact present_offer_of_idle hs
    | active => exact present_offer_of_active hs
  · cases rst with
    | true => rfl
    | false => rw [globalStep_without_reset, globalStep_without_reset, wrValid_of_idle hs]; rfl

/-- A step without reset is the transition of its key from the state that the host's half has left. -/
theorem transition_of_step {s t : State} (hr : s.nextRst = false) (h : step s = .next t) :
    ∃ u, exec (rowOfBits s.wrValid s.pulsing (s.wrValid && s.nextAcc) s.last) s.mid = .next u ∧
      t = u.advanceFrom s := by
  rw [step_without_reset hr] at h
  obtain ⟨u, hu⟩ := exec_answers (rowOfBits s.wrValid s.pulsing (s.wrValid && s.nextAcc) s.last) s.mid
  rw [hu] at h
  cases h
  exact ⟨u, hu, rfl⟩

/-- The offer of a step without reset is that of its start. -/
theorem step_offer {s t : State} (hr : s.nextRst = false) (h : step s = .next t) : t.offer = s.present.offer := by
  obtain ⟨u, hu, rfl⟩ := transition_of_step hr h
  exact (exec_transition_offer (hostSide_rowOfBits _ _ _ _) hu).trans (hostHalf_offer s _ _)

/-! ### The two halves -/

/-- The state with the fields that the host's half writes taken from another (10_state.md R38). -/
def State.withHost (s h : State) : State :=
  { s with
    burstSize := h.burstSize
    baseAddress := h.baseAddress
    addressOffset := h.addressOffset
    trigPrev := h.trigPrev
    rdata := h.rdata }

/-- A zero-size pulse reads none of what the host's half wrote. -/
theorem zeroBurstStart_afterHost {i : Instr} (hi : triggerLevel i = true) (s : State) :
    zeroBurstStart (s.afterHost i) = (zeroBurstStart s).withHost (s.afterHost i) := by
  have hcfg : (s.afterHost i).cfg = s.cfg := rfl
  cases i with
  | csrwStartTrigger =>
    unfold zeroBurstStart
    rw [hcfg]
    cases s.cfg.zeroBurst with
    | refuse | skip | skipCount | asOne | wrap => rfl
  | _ => cases hi

/-- Neither does the start of a burst: a step with a trigger request writes no configuration register (R100). -/
theorem startFrom_afterHost {i : Instr} (hi : triggerLevel i = true) (s : State) :
    startFrom (s.afterHost i) = (startFrom s).withHost (s.afterHost i) := by
  cases i with
  | csrwStartTrigger =>
    by_cases h0 : s.burstSize = 0
    · rw [startFrom_of_zero h0, ← zeroBurstStart_afterHost hi]
      exact startFrom_of_zero h0
    · rw [startFrom_of_size h0]
      exact startFrom_of_size h0
  | _ => cases hi

/-- A transition makes of the host's half what it makes of the start of the step, but for the fields that the host's
half wrote (10_state.md R38). A start of a burst reads the configuration, and so needs the request of its own step. -/
theorem exec_transition_afterHost {i r : Instr} {s e : State} (hr : hostSide r = false)
    (hstart : ∀ acc last, r = .idleStart acc last → triggerLevel i = true) (he : exec r s = .next e) :
    exec r (s.afterHost i) = .next (e.withHost (s.afterHost i)) := by
  cases r with
  | idleStart acc last =>
    cases he
    exact congrArg Host.Outcome.next (startFrom_afterHost (hstart acc last rfl) s)
  | idleHold | activeAdvance | activeComplete | activeStall => cases he; rfl
  | _ => cases hr

/-- Only a key with a pulse selects the start of a burst (30_encoding.md R84). -/
theorem pulse_of_rowOfBits_idleStart {st trg acc last a l : Bool} (h : rowOfBits st trg acc last = .idleStart a l) :
    trg = true := by
  cases st with
  | false => cases trg with
    | false => cases h
    | true => rfl
  | true => cases acc with
    | false => cases h
    | true => cases last <;> cases h

/-- Settles O30: the host's half and the transition are each run from the start of the step, and the step is the one
with the host's fields of the other. -/
theorem stepPartsReadStart : Obligations.StepPartsReadStart := by
  intro s i hr hi
  have hlevel : triggerLevel i = triggerLevel (hostInstr s.cfg s.nextOp) := by rw [hostInstr_of_ok hi]
  have hrow : decodeFsm (s.fsmKey (triggerLevel i) s.nextAcc) =
      rowOfBits s.wrValid s.pulsing (s.wrValid && s.nextAcc) s.last := by
    rw [hlevel]
    exact decodeFsm_engineKey s s.nextOp s.nextAcc
  obtain ⟨e, he⟩ := exec_answers (rowOfBits s.wrValid s.pulsing (s.wrValid && s.nextAcc) s.last) s.present
  have hstart (acc last : Bool)
      (h : rowOfBits s.wrValid s.pulsing (s.wrValid && s.nextAcc) s.last = .idleStart acc last) :
      triggerLevel i = true :=
    hlevel.trans (State.level_of_pulsing (pulse_of_rowOfBits_idleStart h))
  have hstep : step s = .next ((e.withHost (s.present.afterHost i)).advanceFrom s) := by
    rw [step_without_reset hr, mid_of_ok hi, exec_transition_afterHost (hostSide_rowOfBits _ _ _ _) hstart he]
    rfl
  rw [hrow]
  exact ⟨_, e, _, exec_host (hostSide_of_decodeCsr hi) _, he, hstep, rfl, rfl, rfl, rfl, rfl, rfl, rfl, rfl, rfl, rfl,
    rfl, rfl, rfl, rfl, rfl, step_offer hr hstep⟩

/-- The engine's half of an active step neither reads nor writes `trig_prev`. -/
theorem State.afterActive_setTrigPrev (s : State) (b acc last : Bool) :
    (s.setTrigPrev b).afterActive acc last = (s.afterActive acc last).setTrigPrev b := by
  cases acc <;> cases last <;> rfl

/-- The request of a write is bit 0 of its data word, which its lines carry (30_encoding.md R81). -/
theorem triggerLevel_trunc {p : Params} (hp : p.Ok) (wdata : Nat) :
    triggerLevel (.csrwStartTrigger (trunc p.csrDataW wdata)) = (wdata % 2 == 1) := by
  have hbit : trunc p.csrDataW wdata % 2 = wdata % 2 := trunc_trunc (csrWidth_le hp .startTrigger) wdata
  rw [triggerLevel, hbit]

/-- Settles O37: an active step takes the same transition with the request as without, and the host's half of the
trigger write is that of `NOP` but for `trig_prev`. -/
theorem triggerWhileActiveDropped : Obligations.TriggerWhileActiveDropped := by
  intro s wdata acc hp hs
  have htrig : decodeCsr s.cfg (hostCsrw .startTrigger wdata).key (hostCsrw .startTrigger wdata).wdata =
      .ok (.csrwStartTrigger (trunc s.cfg.csrDataW wdata)) := decodeCsr_write (r := .startTrigger) rfl
  have hhost : s.present.afterHost (.csrwStartTrigger (trunc s.cfg.csrDataW wdata)) =
      (s.present.afterHost (.nop 0)).setTrigPrev (wdata % 2 == 1) :=
    congrArg (s.present.afterHost (.nop 0)).setTrigPrev (triggerLevel_trunc hp wdata)
  refine ⟨_, globalStep_of_active hs (decodeCsr_hostNop s.cfg) acc, (globalStep_of_active hs htrig acc).trans ?_⟩
  rw [hhost, State.afterActive_setTrigPrev]
  rfl

/-! ### Pulses and the engine's state -/

/-- Which pulses in idle start a burst (R146, R153). -/
theorem startFrom_active_iff (s : State) :
    (startFrom s).currentState = .active ↔
      s.burstSize ≠ 0 ∨ s.cfg.zeroBurst = .asOne ∨ s.cfg.zeroBurst = .wrap := by
  by_cases h0 : s.burstSize = 0
  · rw [startFrom_of_zero h0, zeroBurstStart]
    cases s.cfg.zeroBurst <;> simp [h0]
  · simp [startFrom_of_size h0, h0]

/-- Settles O40: in each of the six cases of a step. -/
theorem engineActiveExactlyWhen : Obligations.EngineActiveExactlyWhen := by
  intro s t h
  cases step_eq_next_iff.1 h with
  | reset hr => simp [hr]
  | idleHold hr hs hp => simp [hs, hp]
  | idleStart hr hs hp =>
    obtain ⟨hsize, -⟩ := mid_config_of_pulsing hp
    simp [hr, hs, hp, startFrom_active_iff, hsize]
  | advance hr hs ha hl => simp [hr, hs, hl]
  | complete hr hs ha hl => simp [hs, ha, hl]
  | stall hr hs ha => simp [hr, hs, ha]

/-- After a step without reset, `trig_prev` is the request of that step (R142). -/
theorem step_trigPrev {s t : State} (hr : s.nextRst = false) (h : step s = .next t) :
    t.trigPrev = triggerLevel (hostInstr s.cfg s.nextOp) := by
  obtain ⟨u, hu, rfl⟩ := transition_of_step hr h
  obtain ⟨-, -, -, hprev, -⟩ := exec_transition_frame (hostSide_rowOfBits _ _ _ _) hu
  exact hprev.trans s.mid_trigPrev

/-- Settles O46: the pulse of the next step is formed against the request of this one. -/
theorem pulseOnRisingEdge : Obligations.PulseOnRisingEdge := by
  intro s t hr h
  obtain ⟨hcfg, -⟩ := step_inputs h
  rw [State.pulsing, step_trigPrev hr h, hcfg]
  cases s.cfg.triggerMode <;> rfl

end Sys2Proof.Machine
end

section
/-! A burst (41_engine_fsm.md R146 to R150, R154): where it stands after `k` words, along a run under any host and
bus. -/

namespace Sys2Proof.Machine

/-! ### The start -/

/-- What the start of a burst leaves: the first word is next, and no word is written yet (R146). -/
structure State.Started (s t : State) : Prop where
  active : t.currentState = .active
  words_written : t.wordsWritten = 0
  cfg : t.cfg = s.cfg
  lat_size : t.latSize = s.burstSize
  latched_word : t.latchedWord = s.firstWord
  pass_count : t.passCount = s.passCount
  write_log : t.writeLog = s.writeLog

theorem started_of_step {s t : State} (hr : s.nextRst = false) (hs : s.currentState = .idle) (hp : s.pulsing = true)
    (hn : s.burstSize ≠ 0) (h : step s = .next t) : s.Started t := by
  obtain ⟨hsize, hbase, hoff⟩ := mid_config_of_pulsing hp
  have hn' : s.mid.burstSize ≠ 0 := hsize ▸ hn
  cases h.symm.trans (step_of_case (.idleStart hr hs hp))
  rw [startFrom_of_size hn']
  exact {
    active := rfl
    words_written := rfl
    cfg := s.mid_cfg
    lat_size := hsize
    latched_word := by simp [State.latchedWord, State.firstWord, hbase, hoff]
    pass_count := s.mid_passCount
    write_log := s.mid_writeLog }

theorem payload_eq_of_passCount {s t : State} (hcfg : t.cfg = s.cfg) (h : t.passCount = s.passCount) :
    t.payload = s.payload := by
  rw [State.payload, hcfg, h, State.payload]

/-- Settles O47: the step of the trigger is still idle at its start, the next one active with the counter at 0. -/
theorem firstOfferFollowsTrigger : Obligations.FirstOfferFollowsTrigger := by
  intro s t u hs hr hp hn hst hr' htu
  have hb := started_of_step hr hs hp hn hst
  have haddr : t.wordAddr = trunc s.cfg.wordAddrW s.firstWord := by
    rw [wordAddr_eq, hb.cfg, hb.latched_word, hb.words_written, Nat.add_zero]
  refine ⟨(step_offer hr hst).trans (present_offer_of_idle hs), ?_, ?_⟩
  · rw [State.ready, hb.active]
    rfl
  · rw [step_offer hr' htu, present_offer_of_active hb.active, haddr, payload_eq_of_passCount hb.cfg hb.pass_count]

/-! ### Word by word -/

/-- The state of the burst that is active in `s` with its counter at 0, after its first `k` words. -/
structure State.BurstAt (s : State) (k : Nat) (t : State) : Prop where
  active : t.currentState = .active
  words_written : t.wordsWritten = k
  cfg : t.cfg = s.cfg
  lat_size : t.latSize = s.latSize
  latched_word : t.latchedWord = s.latchedWord
  pass_count : t.passCount = s.passCount
  words : wordsOf t.writeLog = wordsOf s.writeLog ++ burstWords s.cfg s.latchedWord s.payload k

theorem burstWords_succ (p : Params) (first payload n : Nat) :
    burstWords p first payload (n + 1) =
      burstWords p first payload n ++ [(trunc p.wordAddrW (first + n), payload)] := by
  rw [burstWords, List.range_succ, List.map_append]
  rfl

theorem wordsOf_append (log log' : List WriteEntry) : wordsOf (log ++ log') = wordsOf log ++ wordsOf log' :=
  List.map_append

theorem burstAt_zero {s : State} (hs : s.currentState = .active) (hw : s.wordsWritten = 0) : s.BurstAt 0 s :=
  ⟨hs, hw, rfl, rfl, rfl, rfl, (List.append_nil _).symm⟩

/-- The terminal test of a burst after `k` words (R152, R153). -/
theorem State.BurstAt.last_iff {s t : State} {k : Nat} (h : s.BurstAt k t) (hw : s.latSize < 2 ^ s.cfg.burstSizeW) :
    t.last = true ↔ k + 1 = s.burstLength := by
  have hlen : t.burstLength = s.burstLength := by
    rw [State.burstLength, h.lat_size, h.cfg, State.burstLength]
  rw [last_iff_burstLength (by rwa [h.lat_size, h.cfg]), h.words_written, hlen]

/-- The word that a burst offers after `k` words is the next of its words (R150, R151). -/
theorem State.BurstAt.words_acceptWrite {s t : State} {k : Nat} (h : s.BurstAt k t) :
    wordsOf (t.writeLog ++ [⟨t.stepNo, t.wordAddr, t.payload⟩]) =
      wordsOf s.writeLog ++ burstWords s.cfg s.latchedWord s.payload (k + 1) := by
  have haddr : t.wordAddr = trunc s.cfg.wordAddrW (s.latchedWord + k) := by
    rw [wordAddr_eq, h.cfg, h.latched_word, h.words_written]
  rw [burstWords_succ, ← List.append_assoc, ← h.words, ← payload_eq_of_passCount h.cfg h.pass_count, ← haddr,
    wordsOf_append]
  rfl

/-- An active step without reset: the host's half, then the engine's. -/
theorem step_of_active {s : State} (hs : s.currentState = .active) (hr : s.nextRst = false) :
    step s = .next ((s.mid.afterActive s.accepting s.last).advanceFrom s) := by
  rw [step_without_reset hr, wrValid_of_active hs, exec_rowOfBits_active, accepting_of_active hs hr]
  rfl

/-- The host's half of a step leaves a burst where it is. -/
theorem State.BurstAt.mid {s t : State} {k : Nat} (h : s.BurstAt k t) : s.BurstAt k t.mid where
  active := t.mid_currentState.trans h.active
  words_written := t.mid_wordsWritten.trans h.words_written
  cfg := t.mid_cfg.trans h.cfg
  lat_size := t.mid_latSize.trans h.lat_size
  latched_word := by simpa [State.latchedWord] using h.latched_word
  pass_count := t.mid_passCount.trans h.pass_count
  words := t.mid_writeLog ▸ h.words

/-- An accepted word that is not the last takes a burst one word further (R147). -/
theorem State.BurstAt.countWord {s t : State} {k : Nat} (h : s.BurstAt k t) :
    s.BurstAt (k + 1) t.acceptWrite.countWord :=
  { h with
    words_written := congrArg (· + 1) h.words_written
    words := h.words_acceptWrite }

theorem State.BurstAt.advanceFrom {s t : State} {k : Nat} (h : s.BurstAt k t) (u : State) :
    s.BurstAt k (t.advanceFrom u) := { h with }

/-- A step before the last acceptance: the burst is one word further if the step accepts (R147, R149). -/
theorem State.BurstAt.step {s t u : State} {k : Nat} (h : s.BurstAt k t) (hw : s.latSize < 2 ^ s.cfg.burstSizeW)
    (hr : t.nextRst = false) (hk : k + (if t.accepting then 1 else 0) < s.burstLength)
    (hstep : Machine.step t = .next u) : s.BurstAt (k + if t.accepting then 1 else 0) u := by
  cases hstep.symm.trans (step_of_active h.active hr)
  refine State.BurstAt.advanceFrom ?_ t
  cases ha : t.accepting with
  | false => exact h.mid
  | true =>
    rw [ha, if_pos rfl] at hk
    have hl : t.last = false := Bool.eq_false_iff.2 fun hl => by
      have := (h.last_iff hw).1 hl
      omega
    rw [hl]
    exact h.mid.countWord

/-- A burst along a run that does not reach its last acceptance. -/
theorem State.BurstAt.run {s t u : State} {k n : Nat} (h : s.BurstAt k t) (hw : s.latSize < 2 ^ s.cfg.burstSizeW)
    (hn : t.NoReset) (hrun : t.Reaches n u) (hk : k + t.acceptCount n < s.burstLength) :
    s.BurstAt (k + t.acceptCount n) u := by
  induction n generalizing t k with
  | zero =>
    rw [reaches_zero.1 hrun]
    exact h
  | succ n ih =>
    obtain ⟨v, hv, hrun⟩ := reaches_succ.1 hrun
    rw [acceptCount_succ n hv, ← Nat.add_assoc] at hk ⊢
    exact ih (h.step hw (nextRst_of_noReset hn) (by omega) hv) (noReset_step hn hv) hrun hk

/-- What the last acceptance leaves: idle, the pass counted, and exactly the words of the burst written (R148, R154). -/
structure State.BurstDone (s t : State) : Prop where
  idle : t.currentState = .idle
  words_written : t.wordsWritten = 0
  pass_count : t.passCount = (s.passCount + 1) % 2 ^ s.cfg.passW
  words : wordsOf t.writeLog = wordsOf s.writeLog ++ burstWords s.cfg s.latchedWord s.payload s.burstLength

/-- The last acceptance ends the burst (R148). -/
theorem State.BurstAt.complete {s t : State} {k : Nat} (h : s.BurstAt k t) (hw : s.latSize < 2 ^ s.cfg.burstSizeW)
    (hr : t.nextRst = false) (hk : k + 1 = s.burstLength) (ha : t.accepting = true) :
    ∃ u, Machine.step t = .next u ∧ s.BurstDone u := by
  refine ⟨_, step_of_active h.active hr, ?_⟩
  rw [ha, (h.last_iff hw).2 hk]
  exact {
    idle := rfl
    words_written := rfl
    pass_count := by rw [← h.mid.pass_count, ← h.mid.cfg]; rfl
    words := hk ▸ h.mid.words_acceptWrite }

theorem reaches_noReset {s t : State} {n : Nat} (hn : s.NoReset) (h : s.Reaches n t) : t.NoReset :=
  reaches_keeps (fun _ _ => noReset_step) hn h

/-- Settles O57: the start leaves the burst at its first word, each acceptance before the last takes it one further, and
the last one ends it. -/
theorem burstTheorem : Obligations.BurstTheorem := by
  intro s s₁ _ hw hn hs hpulse hsize hstep n t hrun
  have hb := started_of_step (nextRst_of_noReset hn) hs hpulse hsize hstep
  have hn₁ := noReset_step hn hstep
  have hlat : s₁.latSize < 2 ^ s₁.cfg.burstSizeW := by
    rw [hb.lat_size, hb.cfg]
    exact hw.burst_size
  have hlen : s₁.burstLength = s.burstSize := (if_neg (hb.lat_size ▸ hsize)).trans hb.lat_size
  have hpay := payload_eq_of_passCount hb.cfg hb.pass_count
  have hat (hlt : s₁.acceptCount n < s.burstSize) : s₁.BurstAt (s₁.acceptCount n) t := by
    have h0 := burstAt_zero hb.active hb.words_written
    simpa using h0.run hlat hn₁ hrun (by omega)
  rw [← hb.write_log, ← hb.cfg, ← hb.latched_word, ← hb.pass_count, ← hpay]
  refine ⟨fun hlt => ?_, fun hlast hacc => ?_⟩
  · have h := hat hlt
    exact ⟨h.active, h.words_written, h.pass_count, h.words⟩
  · obtain ⟨u, hu, hdone⟩ := (hat (by omega)).complete hlat (nextRst_of_noReset (reaches_noReset hn₁ hrun))
      (hlast.trans hlen.symm) hacc
    exact ⟨u, hu, hdone.idle, hdone.words_written, hdone.pass_count, hlen ▸ hdone.words⟩

end Sys2Proof.Machine
end

section
/-! The write bus (42_bus_interface.md R172 to R174, R179, R180): what an acceptance and a rejection leave, what a reader
of the target sees, and that a fair bus ends a burst. -/

namespace Sys2Proof.Machine

/-! ### The offer and the log -/

/-- Settles O39: a rejected offer leaves the state that the host's half has left, which offers what the start offered. -/
theorem stallHoldsOffer : Obligations.StallHoldsOffer := by
  intro s t hs hr ha h
  cases h.symm.trans (step_of_case (.stall hr hs ha))
  exact ⟨s.mid_currentState.trans hs, s.mid_wordAddr, s.mid_payload, s.mid_wordsWritten, s.mid_passCount,
    s.mid_writeLog, s.mid_mem⟩

/-- Settles O48: two of the six cases of a step accept the offer, and only these two write the log. -/
theorem writeLogAppends : Obligations.WriteLogAppends := by
  intro s t h
  cases step_eq_next_iff.1 h with
  | reset hr => simp [accepting_of_reset hr]
  | idleHold hr hs => simp [accepting_of_idle hs]
  | idleStart hr hs =>
    obtain ⟨-, -, -, -, -, -, hlog, -⟩ := startFrom_fields s.mid
    simp [accepting_of_idle hs, hlog]
  | advance hr hs ha => simp [accepting_of_active hs hr, ha]
  | complete hr hs ha => simp [accepting_of_active hs hr, ha]
  | stall hr hs ha => simp [accepting_of_active hs hr, ha]

/-! ### What a reader sees -/

theorem targetByte_append (p : Params) (log : List WriteEntry) (e : WriteEntry) (a : Nat) :
    targetByte p (log ++ [e]) a = (e.byteAt p a).or (targetByte p log a) :=
  List.foldl_append

/-- A word at the target puts its own bytes over those that were there (20_memory.md R52). -/
theorem Memory.read_writeWord_entry (p : Params) (m : Memory) (e : WriteEntry) (a : Nat) :
    (m.writeWord p e.waddr e.data).read a = (e.byteAt p a).or (m.read a) := by
  rw [Memory.read_writeWord, WriteEntry.byteAt]
  split <;> rfl

/-- The last entry of a log for an address holds the byte that performing the log leaves there (R180). -/
theorem targetByte_eq_read_replay (p : Params) (log : List WriteEntry) (a : Nat) :
    targetByte p log a = (replay p log).read a := by
  induction log using List.reverseRecOn with
  | nil => rfl
  | append_singleton log e ih => rw [targetByte_append, replay_append, Memory.read_writeWord_entry, ih]

/-- Once every write is visible, a reader sees the whole log (20_memory.md R61). -/
theorem seenByte_of_visible {vis : WriteEntry → Nat} {log : List WriteEntry} {now : Nat}
    (h : ∀ e ∈ log, vis e ≤ now) (p : Params) (a : Nat) : seenByte vis p log now a = targetByte p log a := by
  have hall : log.filter (fun e => vis e ≤ now) = log := List.filter_eq_self.2 fun e he => decide_eq_true (h e he)
  rw [seenByte, hall]

/-- Settles O60: a reader sees the whole log, and the model's memory is its replay. -/
theorem visibleTargetIsMemory : Obligations.VisibleTargetIsMemory := by
  intro s vis ⟨_, hmem⟩ hvis a
  have hread : targetByte s.cfg s.writeLog a = s.mem.read a := by rw [hmem, targetByte_eq_read_replay]
  exact ⟨(seenByte_of_visible hvis s.cfg a).trans hread, hread⟩

/-! ### A fair bus -/

/-- The rest of a run under a fair bus is one under a fair bus. -/
theorem busFair_step {s t : State} (hf : s.BusFair) (h : step s = .next t) : t.BusFair := by
  intro n u hu ha
  obtain ⟨m, v, hm, hv, hacc⟩ := hf (n + 1) u (reaches_succ.2 ⟨t, h, hu⟩) ha
  obtain ⟨m, rfl⟩ := Nat.exists_eq_succ_of_ne_zero (Nat.ne_zero_of_lt hm)
  obtain ⟨w, hw, hv⟩ := reaches_succ.1 hv
  cases h.symm.trans hw
  exact ⟨m, v, Nat.le_of_succ_le_succ hm, hv, hacc⟩

/-- How many words the running burst still has to write, the one on offer among them. -/
def State.wordsLeft (s : State) : Nat := s.burstLength - s.wordsWritten

/-- A running burst in range (10_state.md R39), with no reset to come and a fair bus. -/
structure State.Running (s : State) : Prop where
  active : s.currentState = .active
  lat_size : s.latSize < 2 ^ s.cfg.burstSizeW
  in_range : s.wordsWritten < s.burstLength
  no_reset : s.NoReset
  fair : s.BusFair

/-- An active step without reset keeps the latched size, and with it the length of the burst (10_state.md R34). -/
theorem step_latSize_of_active {s t : State} (hs : s.currentState = .active) (hr : s.nextRst = false)
    (h : step s = .next t) : t.latSize = s.latSize ∧ t.burstLength = s.burstLength := by
  obtain ⟨hcfg, -⟩ := step_inputs h
  have hrule := latchedCopiesRule s t hr h
  rw [if_neg (by simp [hs])] at hrule
  obtain ⟨hlat, -⟩ := hrule
  exact ⟨hlat, by rw [State.burstLength, hlat, hcfg, State.burstLength]⟩

/-- A step that does not end a burst counts the word if the bus accepts it, which is then not the last (R172). -/
theorem step_wordsWritten_of_active {s t : State} (hs : s.currentState = .active) (hr : s.nextRst = false)
    (h : step s = .next t) (ht : t.currentState = .active) :
    t.wordsWritten = (s.wordsWritten + if s.nextAcc then 1 else 0) ∧ ¬(s.nextAcc = true ∧ s.last = true) := by
  have hnotEnd : ¬(s.nextAcc = true ∧ s.last = true) := by
    simpa [hr, hs] using (engineActiveExactlyWhen s t h).1 ht
  refine ⟨?_, hnotEnd⟩
  rw [wordsWrittenRule s t h, accepting_of_active hs hr, if_neg (by simp [hr, hs, hnotEnd])]
  split <;> rfl

/-- A step that does not end a running burst leaves it running, with one word less if the bus accepted (R172, R173). -/
theorem State.Running.step {s t : State} (h : s.Running) (hstep : Machine.step s = .next t)
    (hs : t.currentState = .active) : t.Running ∧ t.wordsLeft + (if s.nextAcc then 1 else 0) = s.wordsLeft := by
  have hr := nextRst_of_noReset h.no_reset
  obtain ⟨hcfg, -⟩ := step_inputs hstep
  obtain ⟨hlat, hlen⟩ := step_latSize_of_active h.active hr hstep
  obtain ⟨hcount, hnotEnd⟩ := step_wordsWritten_of_active h.active hr hstep hs
  have hlt : t.wordsWritten < s.burstLength := by
    have hrange := h.in_range
    rw [hcount]
    split
    · next ha =>
      have hmore := mt (last_iff_burstLength h.lat_size).2 fun hl => hnotEnd ⟨ha, hl⟩
      omega
    · exact hrange
  refine ⟨?_, by rw [State.wordsLeft, State.wordsLeft, hlen]; omega⟩
  exact {
    active := hs
    lat_size := hlat ▸ hcfg ▸ h.lat_size
    in_range := hlen ▸ hlt
    no_reset := noReset_step h.no_reset hstep
    fair := busFair_step h.fair hstep }

theorem reaches_one {s t : State} (h : step s = .next t) : s.Reaches 1 t :=
  reaches_succ.2 ⟨t, h, reaches_zero.2 rfl⟩

/-- If the bus accepts in some step from here on, the burst has ended or has a word less after some step: by induction on
how far off that acceptance is. -/
theorem State.Running.progress {s u : State} {m : Nat} (h : s.Running) (hrun : s.Reaches m u)
    (hacc : u.nextAcc = true) :
    ∃ n t, s.Reaches n t ∧ (t.currentState = .idle ∨ t.Running ∧ t.wordsLeft < s.wordsLeft) := by
  induction m generalizing s with
  | zero =>
    obtain rfl := reaches_zero.1 hrun
    obtain ⟨t, hstep⟩ := stepAlwaysAnswers u
    refine ⟨1, t, reaches_one hstep, ?_⟩
    cases hs : t.currentState with
    | idle => exact .inl rfl
    | active =>
      obtain ⟨hkeep, hleft⟩ := h.step hstep hs
      rw [if_pos hacc] at hleft
      exact .inr ⟨hkeep, by omega⟩
  | succ m ih =>
    obtain ⟨t, hstep, hrun⟩ := reaches_succ.1 hrun
    cases hs : t.currentState with
    | idle => exact ⟨1, t, reaches_one hstep, .inl hs⟩
    | active =>
      obtain ⟨hkeep, hleft⟩ := h.step hstep hs
      obtain ⟨n, v, hv, hprog⟩ := ih hkeep hrun
      exact ⟨n + 1, v, reaches_succ.2 ⟨t, hstep, hv⟩, hprog.imp_right (And.imp_right fun hless => by omega)⟩

/-- A running burst ends, by induction on its words left (R174). -/
theorem State.Running.ends {s : State} (h : s.Running) : ∃ n t, s.Reaches n t ∧ t.currentState = .idle := by
  induction hk : s.wordsLeft using Nat.strong_induction_on generalizing s with
  | _ k ih =>
    obtain ⟨m, u, -, hrun, hacc⟩ := h.fair 0 s (reaches_zero.2 rfl) h.active
    obtain ⟨n, t, ht, hidle | ⟨hrunning, hless⟩⟩ := h.progress hrun hacc
    · exact ⟨n, t, ht, hidle⟩
    · obtain ⟨j, v, hv, hidle⟩ := ih _ (hk ▸ hless) hrunning rfl
      exact ⟨n + j, v, reaches_trans ht hv, hidle⟩

/-- Settles O58: the state is a running burst, since R39 keeps its counter below its length. -/
theorem fairBusEndsBurst : Obligations.FairBusEndsBurst := by
  intro s hw hc hn hs hf
  obtain ⟨hlt, -⟩ := (counterOk_iff_of_active hs).1 hc
  exact State.Running.ends ⟨hs, hw.lat_size, hlt, hn, hf⟩

end Sys2Proof.Machine
end

section
/-! Refusals (60_exceptions.md R202): a step raises the reason of a refused key in the host's half and the reason of a
zero-size pulse in the engine's, and the mark is set when a reason is raised and otherwise left alone. -/

namespace Sys2Proof.Machine

@[simp] theorem State.afterHost_raised (s : State) (i : Instr) : (s.afterHost i).raised = s.raised := rfl

@[simp] theorem State.afterHost_refused (s : State) (i : Instr) : (s.afterHost i).refused = s.refused := rfl

/-- The host's half raises the reason for which the decoder refuses the key, and nothing else (40_csr_access.md R103). -/
theorem mem_mid_raised {s : State} {r : RefuseReason} :
    r ∈ s.mid.raised ↔ decodeCsr s.cfg s.nextOp.key s.nextOp.wdata = .error r := by
  cases h : decodeCsr s.cfg s.nextOp.key s.nextOp.wdata with
  | ok i => simp [mid_of_ok h]
  | error e => simpa [mid_of_error h] using eq_comm

theorem mid_refused_iff (s : State) : s.mid.refused = true ↔ s.refused = true ∨ s.mid.raised ≠ [] := by
  cases h : decodeCsr s.cfg s.nextOp.key s.nextOp.wdata with
  | ok i => simp [mid_of_ok h]
  | error e => simp [mid_of_error h]

/-- A start of a burst keeps the mark in agreement with the reasons, also where it raises one (R153). -/
theorem startFrom_refused_iff {s : State} {marked : Prop} (h : s.refused = true ↔ marked ∨ s.raised ≠ []) :
    (startFrom s).refused = true ↔ marked ∨ (startFrom s).raised ≠ [] := by
  obtain ⟨hmark, hraised⟩ := startFrom_refusal s
  rw [hmark, hraised, h]
  by_cases hz : s.burstSize = 0 ∧ s.cfg.zeroBurst = .refuse <;> simp [hz]

/-- After a step the mark is set exactly if it was set or the step raised a reason. -/
theorem step_refused_iff {s t : State} (h : step s = .next t) :
    t.refused = true ↔ s.refused = true ∨ t.raised ≠ [] := by
  cases step_eq_next_iff.1 h with
  | reset => simp
  | idleStart => exact startFrom_refused_iff (mid_refused_iff s)
  | idleHold | advance | complete | stall => exact mid_refused_iff s

/-- A pulse in idle with size 0 under `REFUSE` (41_engine_fsm.md R153). -/
def State.RefusesZeroBurst (s : State) : Prop :=
  s.currentState = .idle ∧ s.pulsing = true ∧ s.burstSize = 0 ∧ s.cfg.zeroBurst = .refuse

/-- A start raises a reason only for a size of 0 under `REFUSE`, and the size is that at the start of the step. -/
theorem mem_startFrom_mid_raised {s : State} {r : RefuseReason} (hs : s.currentState = .idle)
    (hp : s.pulsing = true) :
    r ∈ (startFrom s.mid).raised ↔ r ∈ s.mid.raised ∨ (r = .zeroBurst ∧ s.RefusesZeroBurst) := by
  obtain ⟨-, hraised⟩ := startFrom_refusal s.mid
  obtain ⟨hsize, -⟩ := mid_config_of_pulsing hp
  rw [hraised, hsize, s.mid_cfg, State.RefusesZeroBurst]
  by_cases hz : s.burstSize = 0 ∧ s.cfg.zeroBurst = .refuse <;> simp [hs, hp, hz]

/-- Which reasons a step raises: none under reset (R205), else that of a refused key and that of a zero-size pulse. -/
theorem mem_step_raised {s t : State} {r : RefuseReason} (h : step s = .next t) :
    r ∈ t.raised ↔ s.nextRst = false ∧ (decodeCsr s.cfg s.nextOp.key s.nextOp.wdata = .error r ∨
      r = .zeroBurst ∧ s.RefusesZeroBurst) := by
  rw [← mem_mid_raised]
  cases step_eq_next_iff.1 h with
  | reset hr => simp [hr]
  | idleStart hr hs hp => simp [hr, mem_startFrom_mid_raised hs hp]
  | idleHold hr hs hp => simp [hr, State.RefusesZeroBurst, hp]
  | advance hr hs | complete hr hs | stall hr hs => simp [hr, State.RefusesZeroBurst, hs]

/-- The reason for which a key is refused names that key (30_encoding.md R88). -/
theorem decodeCsr_eq_badCsrKey_iff {p : Params} {key key' : CsrKey} {wdata : Nat} :
    decodeCsr p key wdata = .error (.badCsrKey key') ↔
      key = key' ∧ decodeCsr p key' wdata = .error (.badCsrKey key') := by
  refine ⟨fun h => ?_, fun ⟨hkey, h⟩ => hkey ▸ h⟩
  obtain ⟨hreason, -⟩ := decodeCsr_error h
  cases hreason
  exact ⟨rfl, h⟩

theorem decodeCsr_ne_zeroBurst {p : Params} {key : CsrKey} {wdata : Nat} :
    decodeCsr p key wdata ≠ .error .zeroBurst := fun h => by
  obtain ⟨hreason, -⟩ := decodeCsr_error h
  cases hreason

/-- Settles O49: a refused key gives its own reason and never that of a zero-size pulse. -/
theorem refusalMarkRule : Obligations.RefusalMarkRule := by
  intro s t h
  refine ⟨step_refused_iff h, fun key => ?_, ?_⟩
  · rw [mem_step_raised h, decodeCsr_eq_badCsrKey_iff]
    simp
  · rw [mem_step_raised h]
    simp [decodeCsr_ne_zeroBurst, State.RefusesZeroBurst]

/-- Settles O50: a mark that is set stays set in every step, so it is set at the end of the run. -/
theorem refusalMarkSticky : Obligations.RefusalMarkSticky := by
  intro s t n hrun ht
  refine Bool.eq_false_iff.2 fun hs => Bool.eq_false_iff.1 ht ?_
  exact reaches_keeps (P := fun u => u.refused = true)
    (fun _ _ hu hstep => (step_refused_iff hstep).2 (.inl hu)) hs hrun

end Sys2Proof.Machine
end

section
/-! Reset (70_reset_and_hazards.md R230, R231): the values of the reset state, and the event as one case of a step. -/

namespace Sys2Proof.Machine

/-- Settles O35: each field by the definition of the state. -/
theorem resetStateValues : Obligations.ResetStateValues :=
  ⟨rfl, rfl, rfl, rfl, rfl, rfl, rfl, rfl⟩

/-- Settles O34: the reset case of a step, which ignores the host's operation and the bus's answer. -/
theorem resetEventEffect : Obligations.ResetEventEffect := fun _ hr =>
  ⟨_, step_of_case (.reset hr), rfl, rfl, rfl, rfl, rfl, rfl, rfl, rfl, rfl, rfl, rfl, rfl, rfl, rfl, rfl⟩

/-- Settles O54: the reset state is a launch with the default parameters, which hang together. -/
theorem resetMeetsInvariant : Obligations.ResetMeetsInvariant :=
  inv_of_launch rfl (by constructor <;> decide)

end Sys2Proof.Machine
end

section
/-! The end of a run (70_reset_and_hazards.md R252): a step from there takes `IDLE_HOLD` with a `NOP`, so that nothing
of the block but `trig_prev` moves any more. -/

namespace Sys2Proof.Machine

/-! ### One step -/

/-- The host's half of a step past the end of the program is that of `NOP` (30_encoding.md R93). -/
theorem mid_of_issued {s : State} (h : s.hostProg = []) : s.mid = s.present.afterHost (.nop 0) :=
  mid_of_ok (by rw [nextOp_of_issued h]; exact decodeCsr_hostNop s.cfg)

theorem pulsing_of_issued {s : State} (h : s.hostProg = []) : s.pulsing = false :=
  pulsing_of_no_level (by rw [nextOp_of_issued h, hostInstr_of_ok (decodeCsr_hostNop s.cfg)]; rfl)

theorem wordsWritten_of_idle {s : State} (hc : s.CounterOk) (hs : s.currentState = .idle) : s.wordsWritten = 0 := by
  rw [State.CounterOk, hs] at hc
  exact hc

/-- Where the engine is idle with the counter at 0 already, `IDLE_HOLD` writes what is there (41_engine_fsm.md R145). -/
theorem enterIdle_of_idle {s : State} (hs : s.currentState = .idle) (hw : s.wordsWritten = 0) : s.enterIdle = s := by
  rw [State.enterIdle, ← hs, ← hw]

/-- Settles O52: with no pulse the step is `IDLE_HOLD`, and the counter is at 0 by R39; the host's half is that of
`NOP`. -/
theorem quiescentStateStays : Obligations.QuiescentStateStays := by
  intro s hend hr hc
  have hcount := wordsWritten_of_idle hc hend.idle
  have hrest : s.hostRest = s.hostProg := by rw [State.hostRest, hend.issued]
  have hstay : s.mid.enterIdle = s.present.afterHost (.nop 0) := by
    rw [enterIdle_of_idle (s.mid_currentState.trans hend.idle) (s.mid_wordsWritten.trans hcount),
      mid_of_issued hend.issued]
  have hpulse := pulsing_of_issued hend.issued
  refine ⟨_, step_of_case (.idleHold hr hend.idle hpulse), atEnd_iff.2 ⟨hrest.trans hend.issued, rfl⟩, ?_⟩
  rw [hstay, State.advanceFrom, hrest, State.present, wrValid_of_idle hend.idle]
  rfl

/-! ### The run from there on -/

theorem reaches_unique {s t u : State} {n : Nat} (ht : s.Reaches n t) (hu : s.Reaches n u) : u = t := by
  cases hu.symm.trans ht
  rfl

/-- The first boundary that meets the conditions of R252 is one boundary. -/
theorem State.FirstAtEnd.unique {s t t' : State} {n n' : Nat} (h : s.FirstAtEnd n t) (h' : s.FirstAtEnd n' t') :
    n' = n ∧ t' = t := by
  have hn : n' = n := by
    refine le_antisymm (not_lt.1 fun hlt => ?_) (not_lt.1 fun hlt => ?_)
    · exact h'.first n t hlt h.reaches h.atEnd
    · exact h.first n' t' hlt h'.reaches h'.atEnd
  subst hn
  exact ⟨rfl, reaches_unique h.reaches h'.reaches⟩

/-- Every step that leaves the engine idle leaves the counter at 0, in every configuration (10_state.md R24). -/
theorem step_idle_counter {s t : State} (h : step s = .next t) (ht : t.currentState = .idle) : t.wordsWritten = 0 := by
  cases step_eq_next_iff.1 h with
  | reset | idleHold | complete => rfl
  | idleStart =>
    obtain ⟨-, hcount, -⟩ := startFrom_fields s.mid
    exact hcount
  | advance _ hs | stall _ hs =>
    simp [hs] at ht

/-- A run from launch is in the range of R39 wherever it is idle. -/
theorem counterOk_of_launched {s t : State} {n : Nat} (hlaunch : s.LaunchAfterReset) (hrun : s.Reaches n t)
    (ht : t.currentState = .idle) : t.CounterOk := by
  have hlaunched : s.currentState = .idle → s.wordsWritten = 0 := fun _ => by rw [hlaunch]; rfl
  exact counterOk_of_idle ht
    (reaches_keeps (P := fun u => u.currentState = .idle → u.wordsWritten = 0)
      (fun _ _ _ hstep => step_idle_counter hstep) hlaunched hrun ht)

/-- The state with the fields of the model's own that still move at the end of a run taken from another (log entries 3,
4 and 5). -/
def State.withIO (s u : State) : State :=
  { s with
    stepNo := u.stepNo
    busSched := u.busSched
    rstSched := u.rstSched
    rdata := u.rdata
    offer := u.offer
    raised := u.raised }

/-- Without reset, a run from the end is at the end in every state, which is that of its start but for `trig_prev` and
the model's own fields. -/
theorem reaches_of_atEnd {s t : State} {n : Nat} (hend : s.AtEnd) (hc : s.CounterOk) (hn : s.NoReset)
    (hrun : s.Reaches n t) :
    t.AtEnd ∧ ∃ io, t = (s.setTrigPrev (s.trigPrev && decide (n = 0))).withIO io := by
  induction n generalizing s with
  | zero =>
    cases reaches_zero.1 hrun
    exact ⟨hend, t, by simp [State.setTrigPrev, State.withIO]⟩
  | succ n ih =>
    obtain ⟨u, hu, hrun⟩ := reaches_succ.1 hrun
    obtain ⟨v, hv, hvend, hveq⟩ := quiescentStateStays s hend (nextRst_of_noReset hn) hc
    cases hu.symm.trans hv
    have hcount : u.wordsWritten = 0 := step_idle_counter hu hvend.idle
    obtain ⟨htend, io, ht⟩ := ih hvend (counterOk_of_idle hvend.idle hcount) (noReset_step hn hu) hrun
    refine ⟨htend, io, ht.trans ?_⟩
    rw [hveq, decide_eq_false n.succ_ne_zero, Bool.and_false]
    rfl

/-- Settles O53: the first boundary at the end is one, and a run from there only moves `trig_prev` and the model's own
fields. -/
theorem quiescenceIsFinal : Obligations.QuiescenceIsFinal := by
  intro s t n hq
  refine ⟨fun n' t' hq' => hq.firstAtEnd.unique hq'.firstAtEnd, fun m u hn hrun => ?_⟩
  have hend := hq.firstAtEnd.atEnd
  have hc := counterOk_of_launched hq.launch hq.firstAtEnd.reaches hend.idle
  obtain ⟨huend, io, rfl⟩ := reaches_of_atEnd hend hc hn hrun
  exact ⟨huend, huend.idle, rfl, rfl, rfl, rfl, rfl, rfl, rfl, rfl, rfl, rfl, rfl, rfl⟩

end Sys2Proof.Machine
end

section
/-! How many steps a burst takes (70_reset_and_hazards.md R250): the bus's answers that a schedule gives carry the burst
word by word, one step for each answer. -/

namespace Sys2Proof.Machine

/-- A burst along the answers of a schedule that does not reach its last acceptance: each answer is a step, each
acceptance a word. -/
theorem State.BurstAt.along {s t : State} {k : Nat} {sched rest : List Bool} (h : s.BurstAt k t)
    (hw : s.latSize < 2 ^ s.cfg.burstSizeW) (hn : t.NoReset) (hbus : t.busSched = sched ++ rest)
    (hk : k + sched.count true < s.burstLength) :
    ∃ u, t.Reaches sched.length u ∧ s.BurstAt (k + sched.count true) u ∧ u.NoReset ∧ u.busSched = rest := by
  induction sched generalizing t k with
  | nil => exact ⟨t, reaches_zero.2 rfl, h, hn, hbus⟩
  | cons a sched ih =>
    have hr := nextRst_of_noReset hn
    have ha : t.accepting = a := by rw [accepting_of_active h.active hr, State.nextAcc, hbus, List.cons_append]
    have hcount : k + (a :: sched).count true = k + (if a then 1 else 0) + sched.count true := by
      rw [List.count_cons, beq_true]
      omega
    rw [hcount] at hk ⊢
    obtain ⟨v, hv⟩ := stepAlwaysAnswers t
    obtain ⟨-, -, -, hbus', -⟩ := step_inputs hv
    have hat : s.BurstAt (k + if a then 1 else 0) v := ha ▸ h.step hw hr (by rw [ha]; omega) hv
    obtain ⟨u, hu, hrest⟩ := ih hat (noReset_step hn hv) (by rw [hbus', hbus]; rfl) hk
    exact ⟨u, reaches_succ.2 ⟨v, hv, hu⟩, hrest⟩

/-- A burst is active in every state along such a schedule: each is the end of a part of it. -/
theorem State.BurstAt.active_along {s t : State} {sched rest : List Bool} {k : Nat} (h : s.BurstAt 0 s)
    (hw : s.latSize < 2 ^ s.cfg.burstSizeW) (hn : s.NoReset) (hbus : s.busSched = sched ++ rest)
    (hlen : sched.count true < s.burstLength) (hk : k ≤ sched.length) (hrun : s.Reaches k t) :
    t.currentState = .active := by
  have hpart : (sched.take k).count true ≤ sched.count true := (List.take_sublist k sched).count_le true
  have hsplit : s.busSched = sched.take k ++ (sched.drop k ++ rest) := by
    rw [hbus, ← List.append_assoc, List.take_append_drop]
  obtain ⟨u, hu, hat, -⟩ := h.along hw hn hsplit (by omega)
  rw [List.length_take_of_le hk] at hu
  exact reaches_unique hu hrun ▸ hat.active

/-- The words of a finished burst, counted (41_engine_fsm.md R154 (a)). -/
theorem State.BurstDone.log_length {s t : State} (h : s.BurstDone t) :
    t.writeLog.length = s.writeLog.length + s.burstLength := by
  simpa [wordsOf, burstWords] using congrArg List.length h.words

/-- Settles O59: the schedule carries the burst to its last word, and the answer after it ends the burst. -/
theorem burstStepCount : Obligations.BurstStepCount := by
  intro s sched rest hw hn hs hcount hbus hlen
  have h0 := burstAt_zero hs hcount
  refine ⟨fun k t hk hrun => h0.active_along hw.lat_size hn hbus (by omega) hk hrun, ?_⟩
  obtain ⟨t, ht, hat, hnt, hbust⟩ := h0.along hw.lat_size hn hbus (by omega)
  have hr := nextRst_of_noReset hnt
  have hacc : t.accepting = true := by rw [accepting_of_active hat.active hr, State.nextAcc, hbust]
  obtain ⟨u, hu, hdone⟩ := hat.complete hw.lat_size hr (by omega) hacc
  have hsteps : sched.length + 1 = s.burstLength + sched.count false := by
    have := List.count_false_add_count_true sched
    omega
  exact ⟨u, hsteps ▸ reaches_trans ht (reaches_one hu), hdone.idle, hdone.pass_count, hdone.log_length,
    hdone.words⟩

end Sys2Proof.Machine
end
